-- ==== Sys2Proof/Word.lean ====
section
/-! DEFINITION. The words, index types and small containers that every other file uses. -/

namespace Sys2Proof

/-- One byte of a snapshot blob (spec/20_memory.md R74). -/
abbrev Byte := BitVec 8

/-- A 32-bit word: a stored int32 as its two's complement word (R76), or a parameter value (R110). -/
abbrev Word32 := BitVec 32

/-- An IEEE 754 binary32 bit pattern (spec/00_scope.md R9). -/
abbrev F32 := BitVec 32

/-- An event word (spec/30_encoding.md R100). -/
abbrev EventWord := BitVec 24

/-- One engine output sample. The spec leaves the type open (R6, N4): a code names a sample and
nothing is known of it. DESIGN CHOICE, log 6. -/
structure Sample where
  code : Nat
  deriving DecidableEq, Repr, Inhabited

/-- The channel index c in 0..2 (spec/10_state.md R54). -/
inductive Chan where
  | ch0 | ch1 | ch2
  deriving DecidableEq, Repr, Inhabited

/-- The breakpoint index k in 0..5 (spec/10_state.md R39). -/
inductive PtIdx where
  | pt0 | pt1 | pt2 | pt3 | pt4 | pt5
  deriving DecidableEq, Repr, Inhabited

/-- One value for each of the three channels (NUM_CH = 3, R6). -/
structure PerCh (α : Type) where
  ch0 : α
  ch1 : α
  ch2 : α
  deriving DecidableEq, Repr

/-- The output buffer of a RENDER: out[k][i], channel k outside, sample i inside (R72). -/
abbrev Buffer := List (List Sample)

end Sys2Proof
end

