-- ==== Sys2Proof/Config.lean ====
section
/-! DEFINITION. The parameters of spec/00_scope.md R6: the constants the source settles, the
configuration a model takes as arguments, the alphabet of the engine command port (R109), and the
free values that the spec leaves open, as constants without a body. -/

namespace Sys2Proof

/-- One breakpoint (time, ratio), both f32 bit patterns (R39). -/
structure Point where
  time : F32
  ratio : F32
  deriving DecidableEq, Repr

/-- The six breakpoints pts[0..5] of a channel (MAX_PTS = 6, R6, R39). -/
structure Points where
  p0 : Point
  p1 : Point
  p2 : Point
  p3 : Point
  p4 : Point
  p5 : Point
  deriving DecidableEq, Repr

/-- ChannelState, persisted (R35 to R39). -/
structure Channel where
  mixer : Word32
  volume : Word32
  pan : F32
  numPoints : Word32
  pts : Points
  deriving DecidableEq, Repr

/-- GlobalState, persisted (R31 to R34). -/
structure Global where
  clockRate : Word32
  envPeriod : Word32
  envShape : Word32
  noisePeriod : Word32
  deriving DecidableEq, Repr

/-- The persisted state (G, ch[0..2]); also the type of the DEFAULTS table (R301). -/
structure Persisted where
  g : Global
  ch : PerCh Channel
  deriving DecidableEq, Repr

/-- CCMAP: the controller numbers of the ControlChange sub-functions (R6, D2). -/
structure CCMap where
  bank : Nat
  volume : Nat
  pan : Nat
  eperH : Nat
  eperM : Nat
  eperL : Nat
  eshape : Nat
  dcReset : Nat
  swenvBase : Nat
  deriving DecidableEq, Repr

/-- The configuration of one instance: the parameters of R6 that are plain data. -/
structure Config where
  ccmap : CCMap
  defaults : Persisted
  /-- NOTEOFF_PERTURB: `none`, or the shape value 0..15 written on NoteOff. -/
  noteOffPerturb : Option (BitVec 4)
  deriving DecidableEq, Repr

/-- One engine command (R109). Its argument ranges are stated by `EngineCmd.inRange` of Safety.lean. -/
inductive EngineCmd where
  | configure (a0 : Nat) (clockRate : Int) (sampleRate : Nat)
  | setTone (c : Chan) (period : Nat)
  | setNoise (period : Nat)
  | setMixer (c : Chan) (toneOn noiseOn envOn : Bool)
  | setVolume (c : Chan) (v : Nat)
  | setPan (c : Chan) (p : Rat) (flags : Nat)
  | setEnvelope (p : Nat)
  | setEnvelopeShape (s : Nat)
  | removeDc
  | process
  deriving DecidableEq, Repr

/-! ## Constants the source settles (R6) -/

/-- MAX_PTS. -/
def Config.maxPts : Nat := 6
/-- STRIDE: samples between software-envelope recomputations. -/
def Config.stride : Nat := 25
/-- VOL_MAX. -/
def Config.volMax : Nat := 14
/-- PERIOD_MAX. -/
def Config.periodMax : Nat := 65535
/-- SHAPE_MAX. -/
def Config.shapeMax : Nat := 15
/-- NOISE_MAX. -/
def Config.noiseMax : Nat := 31
/-- SNAP_FULL. -/
def Config.snapFull : Nat := 208
/-- SNAP_LEGACY. -/
def Config.snapLegacy : Nat := 52
/-- NUM_PARAMS. -/
def Config.numParams : Nat := 52
/-- The reset value of a pitch-bend register (R47, R302). -/
def Config.bendCentre : BitVec 14 := 8192

/-! ## The values this spec takes for the configuration (R6, D2, D13, D25, R301) -/

/-- The CCMAP of D2. -/
def Config.standardCcmap : CCMap :=
  { bank := 0, volume := 7, pan := 10, eperH := 16, eperM := 17, eperL := 18,
    eshape := 19, dcReset := 80, swenvBase := 102 }

/-- A breakpoint (0.0, 0.0). -/
def Config.zeroPoint : Point := { time := 0, ratio := 0 }

/-- The default ChannelState of R301. -/
def Config.standardChannel : Channel :=
  { mixer := 1, volume := 14, pan := 0x3F000000, numPoints := 0,
    pts := { p0 := Config.zeroPoint, p1 := Config.zeroPoint, p2 := Config.zeroPoint,
             p3 := Config.zeroPoint, p4 := Config.zeroPoint, p5 := Config.zeroPoint } }

/-- The DEFAULTS table of R301. -/
def Config.standardDefaults : Persisted :=
  { g := { clockRate := 2000000, envPeriod := 0, envShape := 0, noisePeriod := 0 },
    ch := { ch0 := Config.standardChannel, ch1 := Config.standardChannel,
            ch2 := Config.standardChannel } }

/-- The configuration this spec takes (R6). -/
def Config.standard : Config :=
  { ccmap := Config.standardCcmap, defaults := Config.standardDefaults, noteOffPerturb := none }

/-! ## Free values: no body, so no proof can see what they are -/

/-- ENGINE_ARG0, the first argument of the engine's `configure` (R6, D20: OPEN). Log 7. -/
opaque Config.engineArg0 : Nat

/-- PAN_FLAGS, the flags of every `set_pan` (R6, D21: OPEN). Log 7. -/
opaque Config.panFlags : Nat

/-- `sum : Sample -> Sample -> Sample` of the open parameter `Sample` (R6, D17: OPEN). Log 6. -/
opaque Config.sampleSum : Sample → Sample → Sample

/-- The engine's (left, right) answer after a `process()`/`remove_dc()` pair: an unconstrained oracle
that may depend on the whole engine command history (R13, D37). It is a free function of the counter
`State.answerIndex` and of the trace emitted so far. Log 5. -/
opaque Config.engineAnswer : Nat → List EngineCmd → Sample × Sample

end Sys2Proof
end

