-- ==== Sys2Proof/Syntax.lean ====
section
/-! DEFINITION. The instructions: one constructor of `Instr` for each row of spec/opcode_table.json,
the raw host command record (spec/30_encoding.md R110) and the encoded form of an instruction. -/

namespace Sys2Proof

/-- The five event types of the closed set (R101). -/
inductive EventType where
  | noteOff | noteOn | controlChange | programChange | pitchBend
  deriving DecidableEq, Repr

/-- A timed event (event word, offset) of a RENDER's event list (R71, R108). -/
abbrev TimedEvent := EventWord × Nat

/-- A host command as the host issues it (R110): an operation code and operand fields. A command reads
the fields its row of R110 lists; the others are ignored. The spec gives no byte format (N26): log 3. -/
structure HostRecord where
  op : BitVec 8
  /-- CONFIGURE -/
  sampleRate : Nat := 0
  /-- RENDER: N -/
  blockLen : Nat := 0
  /-- RENDER -/
  numOut : Nat := 0
  /-- RENDER -/
  events : List TimedEvent := []
  /-- RENDER: what the host placed in the output buffer (R73) -/
  prior : Buffer := []
  /-- PARAM_WRITE -/
  paramId : BitVec 8 := 0
  /-- PARAM_WRITE -/
  value : Word32 := 0
  /-- STATE_SAVE -/
  layout : Nat := 0
  /-- STATE_LOAD -/
  blob : List Byte := []
  deriving DecidableEq, Repr

/-- One constructor per row of spec/opcode_table.json, in the table's order. Every bit of an event
word that the row does not fix is an operand, so that no bit is lost. -/
inductive Instr where
  /-- IGNORED_TYPE_0_7: w[23] = 0, the other 23 bits free (R111). -/
  | ignoredType07 (body : BitVec 23)
  /-- IGNORED_TYPE_A (R111). -/
  | ignoredTypeA (body : BitVec 20)
  /-- IGNORED_TYPE_D (R111). -/
  | ignoredTypeD (body : BitVec 20)
  /-- IGNORED_TYPE_F (R111). -/
  | ignoredTypeF (body : BitVec 20)
  /-- IGNORED_CH_3: a recognized type on channel 3 (R102). -/
  | ignoredCh3 (t : EventType) (body : BitVec 16)
  /-- IGNORED_CH_4_7: channel 4 + low (R102). -/
  | ignoredCh47 (t : EventType) (low : BitVec 2) (body : BitVec 16)
  /-- IGNORED_CH_8_15: channel 8 + low (R102). -/
  | ignoredCh815 (t : EventType) (low : BitVec 3) (body : BitVec 16)
  /-- REFUSED_DATA_BIT7_D1: w[15] = 1 (R103). -/
  | refusedBit7D1 (t : EventType) (c : Chan) (d1 : BitVec 7) (low : BitVec 8)
  /-- REFUSED_DATA_BIT7_D2_8: w[7] = 1 on type 0x8 (R103). -/
  | refusedBit7D2T8 (c : Chan) (d1 d2 : BitVec 7)
  /-- REFUSED_DATA_BIT7_D2_9 (R103). -/
  | refusedBit7D2T9 (c : Chan) (d1 d2 : BitVec 7)
  /-- REFUSED_DATA_BIT7_D2_B (R103). -/
  | refusedBit7D2TB (c : Chan) (d1 d2 : BitVec 7)
  /-- REFUSED_DATA_BIT7_D2_E (R103). -/
  | refusedBit7D2TE (c : Chan) (d1 d2 : BitVec 7)
  /-- NOTEON_V0 (R164). -/
  | noteOnV0 (c : Chan) (key : BitVec 7)
  /-- NOTEON, velocity 1..127 (R163). -/
  | noteOn (c : Chan) (key velocity : BitVec 7)
  /-- NOTEOFF (R162). -/
  | noteOff (c : Chan) (key velocity : BitVec 7)
  /-- CC_BANK (R167). -/
  | ccBank (c : Chan) (v : BitVec 7)
  /-- CC_VOLUME (R169). -/
  | ccVolume (c : Chan) (v : BitVec 7)
  /-- CC_PAN (R168). -/
  | ccPan (c : Chan) (v : BitVec 7)
  /-- CC_EPER_H (R171). -/
  | ccEperH (c : Chan) (v : BitVec 7)
  /-- CC_EPER_M (R172). -/
  | ccEperM (c : Chan) (v : BitVec 7)
  /-- CC_EPER_L (R173). -/
  | ccEperL (c : Chan) (v : BitVec 7)
  /-- CC_ESHAPE (R174). -/
  | ccEshape (c : Chan) (v : BitVec 7)
  /-- CC_DCRESET (R175). -/
  | ccDcReset (c : Chan) (v : BitVec 7)
  /-- CC_SWENV_COUNT (R178). -/
  | ccSwenvCount (c : Chan) (v : BitVec 7)
  /-- CC_SWENV_TIME0 (R179). -/
  | ccSwenvTime0 (c : Chan) (v : BitVec 7)
  /-- CC_SWENV_RATIO0 (R180). -/
  | ccSwenvRatio0 (c : Chan) (v : BitVec 7)
  /-- CC_SWENV_TIME1 (R179). -/
  | ccSwenvTime1 (c : Chan) (v : BitVec 7)
  /-- CC_SWENV_RATIO1 (R180). -/
  | ccSwenvRatio1 (c : Chan) (v : BitVec 7)
  /-- CC_SWENV_TIME2 (R179). -/
  | ccSwenvTime2 (c : Chan) (v : BitVec 7)
  /-- CC_SWENV_RATIO2 (R180). -/
  | ccSwenvRatio2 (c : Chan) (v : BitVec 7)
  /-- CC_SWENV_TIME3 (R179). -/
  | ccSwenvTime3 (c : Chan) (v : BitVec 7)
  /-- CC_SWENV_RATIO3 (R180). -/
  | ccSwenvRatio3 (c : Chan) (v : BitVec 7)
  /-- CC_SWENV_TIME4 (R179). -/
  | ccSwenvTime4 (c : Chan) (v : BitVec 7)
  /-- CC_SWENV_RATIO4 (R180). -/
  | ccSwenvRatio4 (c : Chan) (v : BitVec 7)
  /-- CC_SWENV_TIME5 (R179). -/
  | ccSwenvTime5 (c : Chan) (v : BitVec 7)
  /-- CC_SWENV_RATIO5 (R180). -/
  | ccSwenvRatio5 (c : Chan) (v : BitVec 7)
  /-- CC_OTHER: a controller number outside CCMAP and the software-envelope range (R181). -/
  | ccOther (c : Chan) (k v : BitVec 7)
  /-- PROGRAM_CHANGE: pv = d1, w[7:0] not part of the event (R166). -/
  | programChange (c : Chan) (pv : BitVec 7) (low : BitVec 8)
  /-- PITCH_BEND (R182). -/
  | pitchBend (c : Chan) (lsb msb : BitVec 7)
  /-- CONFIGURE (R231). -/
  | configure (sampleRate : Nat)
  /-- DECONFIGURE (R233). -/
  | deconfigure
  /-- RENDER (R200). -/
  | render (blockLen numOut : Nat) (events : List TimedEvent) (prior : Buffer)
  /-- PARAM_WRITE (R234). -/
  | paramWrite (id : BitVec 8) (value : Word32)
  /-- STATE_SAVE (R246). -/
  | stateSave (layout : Nat)
  /-- STATE_LOAD (R247). -/
  | stateLoad (blob : List Byte)
  /-- BAD_OP: any op other than 0x01..0x06 (R110). -/
  | badOp (op : BitVec 8)
  deriving DecidableEq, Repr

/-- An encoded instruction: an event word of a RENDER's list, or a host command record. -/
inductive Encoded where
  | event (w : EventWord)
  | host (r : HostRecord)
  deriving DecidableEq, Repr

/-- Whether the instruction is an outcome of decoding an event word (R113), not a host command. -/
def Instr.isEvent : Instr → Bool
  | .configure _ | .deconfigure | .render _ _ _ _ | .paramWrite _ _ | .stateSave _ | .stateLoad _
  | .badOp _ => false
  | .ignoredType07 _ | .ignoredTypeA _ | .ignoredTypeD _ | .ignoredTypeF _ | .ignoredCh3 _ _
  | .ignoredCh47 _ _ _ | .ignoredCh815 _ _ _ | .refusedBit7D1 _ _ _ _ | .refusedBit7D2T8 _ _ _
  | .refusedBit7D2T9 _ _ _ | .refusedBit7D2TB _ _ _ | .refusedBit7D2TE _ _ _ | .noteOnV0 _ _
  | .noteOn _ _ _ | .noteOff _ _ _ | .ccBank _ _ | .ccVolume _ _ | .ccPan _ _ | .ccEperH _ _
  | .ccEperM _ _ | .ccEperL _ _ | .ccEshape _ _ | .ccDcReset _ _ | .ccSwenvCount _ _
  | .ccSwenvTime0 _ _ | .ccSwenvRatio0 _ _ | .ccSwenvTime1 _ _ | .ccSwenvRatio1 _ _
  | .ccSwenvTime2 _ _ | .ccSwenvRatio2 _ _ | .ccSwenvTime3 _ _ | .ccSwenvRatio3 _ _
  | .ccSwenvTime4 _ _ | .ccSwenvRatio4 _ _ | .ccSwenvTime5 _ _ | .ccSwenvRatio5 _ _
  | .ccOther _ _ _ | .programChange _ _ _ | .pitchBend _ _ _ => true

/-- Whether the instruction is the decode outcome REFUSED(DATA_BIT7) (R103, R113). -/
def Instr.isDataBit7 : Instr → Bool
  | .refusedBit7D1 _ _ _ _ | .refusedBit7D2T8 _ _ _ | .refusedBit7D2T9 _ _ _
  | .refusedBit7D2TB _ _ _ | .refusedBit7D2TE _ _ _ => true
  | .configure _ | .deconfigure | .render _ _ _ _ | .paramWrite _ _ | .stateSave _ | .stateLoad _
  | .badOp _ | .ignoredType07 _ | .ignoredTypeA _ | .ignoredTypeD _ | .ignoredTypeF _
  | .ignoredCh3 _ _ | .ignoredCh47 _ _ _ | .ignoredCh815 _ _ _ | .noteOnV0 _ _
  | .noteOn _ _ _ | .noteOff _ _ _ | .ccBank _ _ | .ccVolume _ _ | .ccPan _ _ | .ccEperH _ _
  | .ccEperM _ _ | .ccEperL _ _ | .ccEshape _ _ | .ccDcReset _ _ | .ccSwenvCount _ _
  | .ccSwenvTime0 _ _ | .ccSwenvRatio0 _ _ | .ccSwenvTime1 _ _ | .ccSwenvRatio1 _ _
  | .ccSwenvTime2 _ _ | .ccSwenvRatio2 _ _ | .ccSwenvTime3 _ _ | .ccSwenvRatio3 _ _
  | .ccSwenvTime4 _ _ | .ccSwenvRatio4 _ _ | .ccSwenvTime5 _ _ | .ccSwenvRatio5 _ _
  | .ccOther _ _ _ | .programChange _ _ _ | .pitchBend _ _ _ => false

end Sys2Proof
end

