-- ==== Sys2Proof/Machine/State.lean ====
section
/-! DEFINITION. The state of one block instance (spec/10_state.md R30), plain data, and the state right
after instance creation (spec/70_reset_and_hazards.md R300). -/

namespace Sys2Proof.Machine

open Sys2Proof

/-- The refusal reasons, a closed list (spec/60_exceptions.md R272). -/
inductive Reason where
  | dataBit7
  | offsetOrder
  | configActive
  | badRate
  | badClock
  | nonFinite
  | emptyForm
  | badParamId
  | badLayout
  | badOp
  deriving DecidableEq, Repr

/-- The validity tri-state V (R49). -/
inductive Validity where
  | uninitialized | defaulted | loaded
  deriving DecidableEq, Repr

/-- ChannelRuntime, not persisted (R40 to R42). -/
structure Runtime where
  noteOn : Bool
  startTime : Rat
  volCache : Option Nat
  deriving DecidableEq, Repr

/-- EngineRuntime, not persisted (R44 to R47). -/
structure EngineRt where
  sampleRate : Nat
  active : Bool
  elapsed : Rat
  pitchBend : PerCh (BitVec 14)
  deriving DecidableEq, Repr

/-- The envelope-period fragment cache X.frag[H, M, L] (R48). -/
structure Fragments where
  h : BitVec 7
  m : BitVec 7
  l : BitVec 7
  deriving DecidableEq, Repr

/-- What a host command hands back (spec/00_scope.md R12, R13): the output buffer of a RENDER, or the
bytes of a STATE_SAVE. -/
inductive Reply where
  | buffer (out : Buffer)
  | blob (bytes : List Byte)
  deriving DecidableEq, Repr

/-- The state of one instance. The fields g to refused are the spec's tuple S of R30; cfg holds the
parameters of R6 that are plain data; trace is the engine command port of R70; pending, replies and
answerIndex are the model's own (logs 2, 12 and 5). -/
structure State where
  g : Global
  ch : PerCh Channel
  rt : PerCh Runtime
  e : EngineRt
  x : Fragments
  v : Validity
  refused : Option Reason
  cfg : Config
  trace : List EngineCmd
  pending : List HostRecord
  replies : List Reply
  answerIndex : Nat
  deriving DecidableEq, Repr

/-- Why the machine stops. There is one stop: the block itself has no trap or fault (R270). -/
inductive Fault where
  /-- Raised by `step` on a state whose refusal mark is set: the model has no step from a refused state
  (R230, R273, U18: stuck). Safe: the machine stops where the spec says it takes no further step. -/
  | halted (why : Reason)
  deriving DecidableEq, Repr

/-- Why the model gives an input no meaning. -/
inductive Refusal where
  /-- An instruction whose arm has no meaning yet. No arm answers it: every instruction has one. Safe. -/
  | notModelled (mnemonic : String)
  /-- Raised by `step` when the instance's CCMAP is not well formed: "A model must refuse a configuration
  whose CCMAP is not well formed" (R7). Safe. -/
  | badCcmap
  /-- Raised by `step` when a RENDER record's buffer is not numOut channels of N slots (R72): the record
  is no RENDER command. Safe. Log 14. -/
  | bufferShape
  deriving DecidableEq, Repr

/-- A channel's runtime at instance creation and after runtimeReset (R300, R302). -/
def Runtime.initial : Runtime := { noteOn := false, startTime := 0, volCache := none }

/-- The same value for each channel. -/
def perChOf {α : Type} (a : α) : PerCh α := { ch0 := a, ch1 := a, ch2 := a }

/-- The state at the creation of an instance with configuration cfg (R300). -/
def State.powerUp (cfg : Config) : State :=
  { g := cfg.defaults.g
    ch := cfg.defaults.ch
    rt := perChOf Runtime.initial
    e := { sampleRate := 0, active := false, elapsed := 0, pitchBend := perChOf Config.bendCentre }
    x := { h := 0, m := 0, l := 0 }
    v := .uninitialized
    refused := none
    cfg := cfg
    trace := []
    pending := []
    replies := []
    answerIndex := 0 }

/-- The machine right after reset: an instance with this spec's configuration (R300, R301). -/
def State.reset : State := State.powerUp Config.standard

end Sys2Proof.Machine
end

