-- ==== Sys2Proof/Machine/Operands.lean ====
section
/-! DEFINITION. Operand forms and the arithmetic of the rules: integer helpers and int32 reading
(spec/00_scope.md R8, R10), binary32 patterns (R9), the controller decodes and the tone period
(spec/41_events.md R165, R169, R170, R176, R177), and the application helpers (R161). -/

namespace Sys2Proof.Machine

open Sys2Proof

/-! ## Integer helpers (R8, R10) -/

/-- `sext_32`: an int32 field's value. -/
def sext32 (w : Word32) : Int := w.toInt

/-- The int32 word of a small non-negative value. -/
def word32 (n : Nat) : Word32 := BitVec.ofNat 32 n

/-- `clamp(v, lo, hi)` on Int. -/
def clampInt (v lo hi : Int) : Int := if v < lo then lo else if v > hi then hi else v

/-- `clamp(v, lo, hi)` on Q. -/
def clampRat (v lo hi : Rat) : Rat := if v < lo then lo else if v > hi then hi else v

/-- `trunc(q)`: toward zero. -/
def truncRat (q : Rat) : Int := if 0 ≤ q then q.floor else -((-q).floor)

/-- `round(q)`: half away from zero. -/
def roundRat (q : Rat) : Int := if 0 ≤ q then (q + 1 / 2).floor else -((-q + 1 / 2).floor)

/-! ## binary32 (R9) -/

/-- 2^e for an integer exponent, exact. -/
def pow2 (e : Int) : Rat := if 0 ≤ e then (2 ^ e.toNat : Nat) else 1 / (2 ^ (-e).toNat : Nat)

/-- The biased exponent field of an f32 pattern. -/
def F32.expField (x : F32) : Nat := (x.extractLsb' 23 8).toNat
/-- The fraction field of an f32 pattern. -/
def F32.fracField (x : F32) : Nat := (x.extractLsb' 0 23).toNat

/-- Whether an f32 pattern is neither NaN nor infinite. -/
def F32.isFinite (x : F32) : Bool := F32.expField x != 255

/-- The exact value of a finite pattern: sign, significand, exponent. -/
def F32.finiteVal (x : F32) : Rat :=
  let e := F32.expField x
  let sig : Nat := if e = 0 then F32.fracField x else F32.fracField x + 2 ^ 23
  let mag : Rat := sig * pow2 ((Nat.max e 1 : Nat) - 150)
  if x.getLsbD 31 then -mag else mag

/-- `val(x)`: defined on finite patterns only (R9). -/
def F32.val (x : F32) : Option Rat := if F32.isFinite x then some (F32.finiteVal x) else none

/-- floor(log2 (n / d)) for n, d > 0. -/
def floorLog2 (n d : Nat) : Int :=
  let k : Int := (Nat.log2 n : Int) - (Nat.log2 d : Int)
  if d * 2 ^ k.toNat ≤ n * 2 ^ (-k).toNat then k else k - 1

/-- a / b rounded to the nearest integer, ties to even, for b > 0. -/
def roundHalfEven (a b : Nat) : Nat :=
  if 2 * (a % b) < b then a / b
  else if b < 2 * (a % b) then a / b + 1
  else a / b + (a / b) % 2

/-- The pattern of n / d without its sign bit: significand rounded at the exponent's unit in the last
place, a carry going into the exponent field; above the finite range the pattern of infinity (log 11). -/
def F32.magBits (n d : Nat) : Nat :=
  if n = 0 then 0
  else
    let e : Int := max (floorLog2 n d) (-126)
    let m := roundHalfEven (n * 2 ^ (23 - e).toNat) (d * 2 ^ (e - 23).toNat)
    min ((e + 126).toNat * 2 ^ 23 + m) 0x7F800000

/-- `toF32(q)`: the f32 nearest to q, ties to the even significand (R9). -/
def toF32 (q : Rat) : F32 :=
  BitVec.ofNat 32 ((if q < 0 then 0x80000000 else 0) + F32.magBits q.num.natAbs q.den)

/-! ## Controller decodes -/

/-- `decTime(v) = toF32(v² / 1000)` (R176). -/
def decTime (v : BitVec 7) : F32 := toF32 ((v.toNat : Rat) ^ 2 / 1000)

/-- `decRatio(v)`: toF32(v / 128) if v <= 64, else toF32(v / 127) (R177). -/
def decRatio (v : BitVec 7) : F32 :=
  if v.toNat ≤ 64 then toF32 ((v.toNat : Rat) / 128) else toF32 ((v.toNat : Rat) / 127)

/-- The pan position v / 128 of the pan controller (R168). -/
def panPosition (v : BitVec 7) : Rat := (v.toNat : Rat) / 128

/-- floor(min(v, 119) / 8) of the volume controller (R169). -/
def volumeOf (v : BitVec 7) : Nat := min v.toNat 119 / 8

/-- The 21-bit envelope-period register of the three fragments (R170). -/
def periodRegister (x : Fragments) : Nat :=
  (x.h.toNat <<< 14) ||| (x.m.toNat <<< 7) ||| x.l.toNat

/-- The stored period min(reg, 65535) (R170). -/
def composedPeriod (x : Fragments) : Nat := min (periodRegister x) Config.periodMax

/-- `freq = 440 · (1059463/1000000)^(key − 57)`, exact (R165). -/
def toneFreq (key : BitVec 7) : Rat :=
  if 57 ≤ key.toNat then 440 * (1059463 / 1000000) ^ (key.toNat - 57)
  else 440 / (1059463 / 1000000) ^ (57 - key.toNat)

/-- `tonePeriod(clock, key) = trunc(clock / (16 · freq))` (R165); a Nat, because clock >= 1 at every
emission (log 17 for a clock below 1). -/
def tonePeriod (clock : Int) (key : BitVec 7) : Nat :=
  (truncRat ((clock : Rat) / (16 * toneFreq key))).toNat

/-- `(msb << 7) | lsb`, 14 bits (R182). -/
def bendOf (lsb msb : BitVec 7) : BitVec 14 := msb ++ lsb

/-- pv[4:0] of a ProgramChange (R166). -/
def programNoise (pv : BitVec 7) : Nat := (pv.extractLsb' 0 5).toNat

/-- pv[7:5] of a ProgramChange, pv[7] being 0 (R166). -/
def programMixer (pv : BitVec 7) : Nat := (pv.extractLsb' 5 2).toNat

/-! ## Application helpers (R161) -/

/-- `apMix(m)`: the three enables of m & 7. -/
def apMix (m : Word32) : Bool × Bool × Bool := (m.getLsbD 0, m.getLsbD 1, m.getLsbD 2)

/-- `apVol(v) = clamp(v, 0, 14)`. -/
def apVol (v : Word32) : Nat := (clampInt (sext32 v) 0 Config.volMax).toNat

/-- `apPeriod(p) = clamp(p, 0, 65535)`. -/
def apPeriod (p : Word32) : Nat := (clampInt (sext32 p) 0 Config.periodMax).toNat

/-- `apShape(s) = clamp(s, 0, 15)`. -/
def apShape (s : Word32) : Nat := (clampInt (sext32 s) 0 Config.shapeMax).toNat

/-- `apNoise(n) = clamp(n, 0, 31)`. -/
def apNoise (n : Word32) : Nat := (clampInt (sext32 n) 0 Config.noiseMax).toNat

/-- `apPan(p) = clamp(val(p), 0, 1)`; none if p is NaN or infinite. -/
def apPan (p : F32) : Option Rat := (F32.val p).map (fun q => clampRat q 0 1)

/-- The effective count n(c) = clamp(num_points, 0, 6) (R38). -/
def effCount (numPoints : Word32) : Nat := (clampInt (sext32 numPoints) 0 Config.maxPts).toNat

end Sys2Proof.Machine
end

