-- ==== Sys2Proof/Machine/Ops.lean ====
section
/-! DEFINITION. The named operations over the state: indexed access, one named update per field, `emit`
(spec/00_scope.md R11), raising a refusal (R273) and the result of a sequence that may be refused
partway. -/

namespace Sys2Proof

/-! ## Indexed access -/

/-- Element c of a per-channel group. -/
def PerCh.get {α : Type} (p : PerCh α) : Chan → α
  | .ch0 => p.ch0
  | .ch1 => p.ch1
  | .ch2 => p.ch2

/-- Replace element c of a per-channel group. -/
def PerCh.set {α : Type} (p : PerCh α) (c : Chan) (a : α) : PerCh α :=
  match c with
  | .ch0 => { p with ch0 := a }
  | .ch1 => { p with ch1 := a }
  | .ch2 => { p with ch2 := a }

/-- Breakpoint k. -/
def Points.get (p : Points) : PtIdx → Point
  | .pt0 => p.p0
  | .pt1 => p.p1
  | .pt2 => p.p2
  | .pt3 => p.p3
  | .pt4 => p.p4
  | .pt5 => p.p5

/-- Replace breakpoint k. -/
def Points.set (p : Points) (k : PtIdx) (a : Point) : Points :=
  match k with
  | .pt0 => { p with p0 := a }
  | .pt1 => { p with p1 := a }
  | .pt2 => { p with p2 := a }
  | .pt3 => { p with p3 := a }
  | .pt4 => { p with p4 := a }
  | .pt5 => { p with p5 := a }

/-- The six breakpoints in index order. -/
def Points.toList (p : Points) : List Point := [p.p0, p.p1, p.p2, p.p3, p.p4, p.p5]

/-- The number of a channel. -/
def Chan.num : Chan → Nat
  | .ch0 => 0
  | .ch1 => 1
  | .ch2 => 2

/-- The number of a breakpoint. -/
def PtIdx.num : PtIdx → Nat
  | .pt0 => 0
  | .pt1 => 1
  | .pt2 => 2
  | .pt3 => 3
  | .pt4 => 4
  | .pt5 => 5

/-- The slot (channel k, sample i) of a buffer, if it has one (R70, R72). -/
def Buffer.slot (out : Buffer) (k i : Nat) : Option Sample := (out[k]?).bind (fun slots => slots[i]?)

end Sys2Proof

namespace Sys2Proof.Machine

open Sys2Proof

/-! ## One named update per field of State -/

/-- Write G. -/
def State.setG (s : State) (g : Global) : State := { s with g := g }
/-- Write ch[c]. -/
def State.setCh (s : State) (c : Chan) (k : Channel) : State := { s with ch := s.ch.set c k }
/-- Write ch[0..2]. -/
def State.setChs (s : State) (k : PerCh Channel) : State := { s with ch := k }
/-- Write rt[c]. -/
def State.setRt (s : State) (c : Chan) (r : Runtime) : State := { s with rt := s.rt.set c r }
/-- Write rt[0..2]. -/
def State.setRts (s : State) (r : PerCh Runtime) : State := { s with rt := r }
/-- Write E. -/
def State.setE (s : State) (e : EngineRt) : State := { s with e := e }
/-- Write X.frag. -/
def State.setX (s : State) (x : Fragments) : State := { s with x := x }
/-- Write V. -/
def State.setV (s : State) (v : Validity) : State := { s with v := v }
/-- Taking the block's one kind of exception: the host command ends with the reason recorded in the
refusal mark, and nothing else is saved (R56, R272, R273). No command clears the mark, so there is no
return from it. -/
def State.refuse (s : State) (why : Reason) : State := { s with refused := some why }
/-- Append to the engine command trace (R11, R70). -/
def State.pushTrace (s : State) (cmd : EngineCmd) : State := { s with trace := s.trace ++ [cmd] }
/-- Hand a reply to the host (R12). -/
def State.pushReply (s : State) (r : Reply) : State := { s with replies := s.replies ++ [r] }
/-- Replace the list of commands issued and not yet taken. -/
def State.setPending (s : State) (p : List HostRecord) : State := { s with pending := p }
/-- Count one answer of the engine. -/
def State.countAnswer (s : State) : State := { s with answerIndex := s.answerIndex + 1 }

/-! ## emit (R11) -/

/-- `emit cmd`: append cmd to the engine command trace, only if E.active is true (R11, D18). -/
def emit (cmd : EngineCmd) (s : State) : State := if s.e.active then s.pushTrace cmd else s

/-! ## Sequences that may be refused partway (R273) -/

/-- The result of a part of a host command: it goes on, or a refusal was raised, with the state changes
and emissions made before the raise kept (R273). -/
inductive Effect (α : Type) where
  | done (a : α)
  | raised (why : Reason) (a : α)
  deriving DecidableEq, Repr

/-- Go on with f unless a refusal was raised. -/
def Effect.andThen {α : Type} (x : Effect α) (f : α → Effect α) : Effect α :=
  match x with
  | .done a => f a
  | .raised why a => .raised why a

/-- Run f on the elements in order, stopping at the first refusal. -/
def Effect.forEach {α β : Type} (f : β → α → Effect α) : List β → α → Effect α
  | [], a => .done a
  | b :: rest, a => (f b a).andThen (Effect.forEach f rest)

/-- The end of a host command: completed, or refused with the mark set (R12, R273). -/
def Effect.finish (x : Effect State) : State :=
  match x with
  | .done s => s
  | .raised why s => s.refuse why

/-! ## Writes of one part of a channel -/

/-- ch[c].mixer <- w. -/
def State.setMixer (s : State) (c : Chan) (w : Word32) : State :=
  s.setCh c { s.ch.get c with mixer := w }
/-- ch[c].volume <- w. -/
def State.setVolume (s : State) (c : Chan) (w : Word32) : State :=
  s.setCh c { s.ch.get c with volume := w }
/-- ch[c].pan <- w. -/
def State.setPan (s : State) (c : Chan) (w : F32) : State :=
  s.setCh c { s.ch.get c with pan := w }
/-- ch[c].num_points <- w. -/
def State.setNumPoints (s : State) (c : Chan) (w : Word32) : State :=
  s.setCh c { s.ch.get c with numPoints := w }
/-- ch[c].pts[k].time <- w; the ratio half is unchanged (R179). -/
def State.setTime (s : State) (c : Chan) (k : PtIdx) (w : F32) : State :=
  let ch := s.ch.get c
  s.setCh c { ch with pts := ch.pts.set k { ch.pts.get k with time := w } }
/-- ch[c].pts[k].ratio <- w; the time half is unchanged (R180). -/
def State.setRatio (s : State) (c : Chan) (k : PtIdx) (w : F32) : State :=
  let ch := s.ch.get c
  s.setCh c { ch with pts := ch.pts.set k { ch.pts.get k with ratio := w } }

/-! ## Engine writes of a channel's mixer -/

/-- emit set_mixer(c, apMix(m)) (R161, R163, R236). -/
def emitMixer (c : Chan) (m : Word32) (s : State) : State :=
  emit (.setMixer c (apMix m).1 (apMix m).2.1 (apMix m).2.2) s

/-! ## runtimeReset (R302) -/

/-- `runtimeReset()`: the runtime of every channel, the pitch bends, the elapsed time and the fragment
cache; G, ch, E.sample_rate, E.active, V and the mark are unchanged (R302). -/
def runtimeReset (s : State) : State :=
  ((s.setRts (perChOf Runtime.initial)).setE
    { s.e with elapsed := 0, pitchBend := perChOf Config.bendCentre }).setX { h := 0, m := 0, l := 0 }

/-- G, ch[0..2] <- DEFAULTS (R231, R247, R301). -/
def installDefaults (s : State) : State := (s.setG s.cfg.defaults.g).setChs s.cfg.defaults.ch

end Sys2Proof.Machine
end

