-- ==== Sys2Proof/Machine/Flags.lean ====
section
/-! DEFINITION. The flags of the block (spec/10_state.md R53): note_on of each channel, E.active, V and
the refusal mark. There are no condition codes. V and the mark are written by `State.setV` and
`State.refuse` of Ops.lean. -/

namespace Sys2Proof.Machine

open Sys2Proof

/-- rt[c].note_on (R40). -/
def State.noteOn (s : State) (c : Chan) : Bool := (s.rt.get c).noteOn

/-- rt[c].note_on <- b. -/
def State.setNoteOn (s : State) (c : Chan) (b : Bool) : State :=
  s.setRt c { s.rt.get c with noteOn := b }

/-- rt[c].start_time <- t. -/
def State.setStartTime (s : State) (c : Chan) (t : Rat) : State :=
  s.setRt c { s.rt.get c with startTime := t }

/-- rt[c].vol_cache <- v. -/
def State.setVolCache (s : State) (c : Chan) (v : Nat) : State :=
  s.setRt c { s.rt.get c with volCache := some v }

/-- Whether some channel is note-on (R205). -/
def State.anyNoteOn (s : State) : Bool := s.rt.ch0.noteOn || s.rt.ch1.noteOn || s.rt.ch2.noteOn

/-- The range-skip test of R205: inactive, or every note_on false. -/
def State.skips (s : State) : Bool := !s.e.active || !s.anyNoteOn

/-- E.active <- b (R45, R231, R233). -/
def State.setActive (s : State) (b : Bool) : State := s.setE { s.e with active := b }

/-- E.sample_rate <- sr, E.active <- true (R231). -/
def State.activate (s : State) (sr : Nat) : State :=
  s.setE { s.e with sampleRate := sr, active := true }

end Sys2Proof.Machine
end

