-- ==== Sys2Proof/Machine/Ignored.lean ====
section
/-! DEFINITION. Event words that are no event: the ignored types and channels (spec/30_encoding.md R102,
R111) and the words refused with DATA_BIT7 (R103). An ignored word changes nothing (R160). -/

namespace Sys2Proof.Machine

open Sys2Proof

/-- The outcome type of every meaning. -/
abbrev Result := Host.Outcome State Fault Refusal

/-- R102, R111, R160: no state change and no emission. -/
def ignoreWord (s : State) : State := s

/-- R103, R201, R273: the RENDER that carries the word is refused before any effect. -/
def refuseWord (s : State) : State := s.refuse .dataBit7

/-- IGNORED_TYPE_0_7 (R111). -/
def execIgnoredType07 (_body : BitVec 23) (s : State) : Result := .next (ignoreWord s)
/-- IGNORED_TYPE_A (R111). -/
def execIgnoredTypeA (_body : BitVec 20) (s : State) : Result := .next (ignoreWord s)
/-- IGNORED_TYPE_D (R111). -/
def execIgnoredTypeD (_body : BitVec 20) (s : State) : Result := .next (ignoreWord s)
/-- IGNORED_TYPE_F (R111). -/
def execIgnoredTypeF (_body : BitVec 20) (s : State) : Result := .next (ignoreWord s)
/-- IGNORED_CH_3 (R102). -/
def execIgnoredCh3 (_t : EventType) (_body : BitVec 16) (s : State) : Result := .next (ignoreWord s)
/-- IGNORED_CH_4_7 (R102). -/
def execIgnoredCh47 (_t : EventType) (_low : BitVec 2) (_body : BitVec 16) (s : State) : Result :=
  .next (ignoreWord s)
/-- IGNORED_CH_8_15 (R102). -/
def execIgnoredCh815 (_t : EventType) (_low : BitVec 3) (_body : BitVec 16) (s : State) : Result :=
  .next (ignoreWord s)

/-- REFUSED_DATA_BIT7_D1 (R103). -/
def execRefusedBit7D1 (_t : EventType) (_c : Chan) (_d1 : BitVec 7) (_low : BitVec 8) (s : State) :
    Result := .next (refuseWord s)
/-- REFUSED_DATA_BIT7_D2_8 (R103). -/
def execRefusedBit7D2T8 (_c : Chan) (_d1 _d2 : BitVec 7) (s : State) : Result := .next (refuseWord s)
/-- REFUSED_DATA_BIT7_D2_9 (R103). -/
def execRefusedBit7D2T9 (_c : Chan) (_d1 _d2 : BitVec 7) (s : State) : Result := .next (refuseWord s)
/-- REFUSED_DATA_BIT7_D2_B (R103). -/
def execRefusedBit7D2TB (_c : Chan) (_d1 _d2 : BitVec 7) (s : State) : Result := .next (refuseWord s)
/-- REFUSED_DATA_BIT7_D2_E (R103). -/
def execRefusedBit7D2TE (_c : Chan) (_d1 _d2 : BitVec 7) (s : State) : Result := .next (refuseWord s)

end Sys2Proof.Machine
end

