-- ==== Sys2Proof/Machine/Snapshot.lean ====
section
/-! DEFINITION. The snapshot blob and the parameter-id space (spec/20_memory.md R74 to R81): byte order,
the layout tables, reading and writing one stored field, and encoding and decoding a blob. -/

namespace Sys2Proof.Machine

open Sys2Proof

/-! ## Byte primitives (R75, R77) -/

/-- `lo4(w, j) = w[8j+7:8j]` (R77). -/
def lo4 (w : Word32) (j : Nat) : Byte := w.extractLsb' (8 * j) 8

/-- `MemRead32(b, off)`: little-endian (R75, R77). -/
def memRead32 (b : List Byte) (off : Nat) : Word32 :=
  b.getD (off + 3) 0 ++ b.getD (off + 2) 0 ++ b.getD (off + 1) 0 ++ b.getD off 0

/-- `MemWrite32(b, off, w)`: b[off + j] <- lo4(w, j) for j = 0..3 (R77). -/
def memWrite32 (b : List Byte) (off : Nat) (w : Word32) : List Byte :=
  (((b.set off (lo4 w 0)).set (off + 1) (lo4 w 1)).set (off + 2) (lo4 w 2)).set (off + 3) (lo4 w 3)

/-! ## The 52 stored fields -/

/-- A persisted field: a row of the tables of R78 and R81. -/
inductive Field where
  | mixer (c : Chan)
  | volume (c : Chan)
  | pan (c : Chan)
  | envPeriod
  | envShape
  | noisePeriod
  | clockRate
  | numPoints (c : Chan)
  | time (c : Chan) (k : PtIdx)
  | ratio (c : Chan) (k : PtIdx)
  deriving DecidableEq, Repr

/-- The byte offset of a field in the full layout (R78). -/
def Field.offset : Field → Nat
  | .mixer c => 0 + 4 * c.num
  | .volume c => 12 + 4 * c.num
  | .pan c => 24 + 4 * c.num
  | .envPeriod => 36
  | .envShape => 40
  | .noisePeriod => 44
  | .clockRate => 48
  | .numPoints c => 52 + 52 * c.num
  | .time c k => 56 + 52 * c.num + 8 * k.num
  | .ratio c k => 60 + 52 * c.num + 8 * k.num

/-- The parameter id of a field (R81). -/
def Field.paramId : Field → Nat
  | .mixer c => 0 + c.num
  | .volume c => 3 + c.num
  | .pan c => 6 + c.num
  | .envPeriod => 9
  | .envShape => 10
  | .noisePeriod => 11
  | .clockRate => 12
  | .numPoints c => 13 + 13 * c.num
  | .time c k => 14 + 13 * c.num + 2 * k.num
  | .ratio c k => 15 + 13 * c.num + 2 * k.num

/-- The 32-bit word a field holds: an int32's two's complement word or an f32's bits, unchanged (R76). -/
def Field.read (f : Field) (s : State) : Word32 :=
  match f with
  | .mixer c => (s.ch.get c).mixer
  | .volume c => (s.ch.get c).volume
  | .pan c => (s.ch.get c).pan
  | .envPeriod => s.g.envPeriod
  | .envShape => s.g.envShape
  | .noisePeriod => s.g.noisePeriod
  | .clockRate => s.g.clockRate
  | .numPoints c => (s.ch.get c).numPoints
  | .time c k => ((s.ch.get c).pts.get k).time
  | .ratio c k => ((s.ch.get c).pts.get k).ratio

/-- Store a word into a field, unchanged (R76, R235, R248). -/
def Field.write (f : Field) (w : Word32) (s : State) : State :=
  match f with
  | .mixer c => s.setMixer c w
  | .volume c => s.setVolume c w
  | .pan c => s.setPan c w
  | .envPeriod => s.setG { s.g with envPeriod := w }
  | .envShape => s.setG { s.g with envShape := w }
  | .noisePeriod => s.setG { s.g with noisePeriod := w }
  | .clockRate => s.setG { s.g with clockRate := w }
  | .numPoints c => s.setNumPoints c w
  | .time c k => s.setTime c k w
  | .ratio c k => s.setRatio c k w

/-- The software-envelope fields of one channel, in snapshot order (R78). -/
def formFields (c : Chan) : List Field :=
  .numPoints c :: [PtIdx.pt0, .pt1, .pt2, .pt3, .pt4, .pt5].flatMap (fun k => [.time c k, .ratio c k])

/-- The first seven rows of the table of R78, one entry a field: the legacy layout's fields (R79). -/
def legacyFields : List Field :=
  [.mixer .ch0, .mixer .ch1, .mixer .ch2, .volume .ch0, .volume .ch1, .volume .ch2,
   .pan .ch0, .pan .ch1, .pan .ch2, .envPeriod, .envShape, .noisePeriod, .clockRate]

/-- Every field, in snapshot order (R78). -/
def allFields : List Field :=
  legacyFields ++ formFields .ch0 ++ formFields .ch1 ++ formFields .ch2

/-- The fields of a layout of len bytes: those whose four bytes lie in it (R246). -/
def fieldsWithin (len : Nat) : List Field := allFields.filter (fun f => decide (f.offset + 4 ≤ len))

/-- R81: the field a parameter id addresses; ids 52 and above do not exist. -/
def fieldOfParam (id : Nat) : Option Field := allFields.find? (fun f => f.paramId == id)

/-! ## Encoding and decoding a blob -/

/-- The blob of len bytes that STATE_SAVE returns: zero bytes, then each field of the layout written at
its offset (R246). -/
def saveBlob (len : Nat) (s : State) : List Byte :=
  (fieldsWithin len).foldl (fun b f => memWrite32 b f.offset (f.read s)) (List.replicate len 0)

/-- Load the fields of a layout of len bytes from a blob, unvalidated (R248). -/
def loadFields (len : Nat) (blob : List Byte) (s : State) : State :=
  (fieldsWithin len).foldl (fun t f => f.write (memRead32 blob f.offset) t) s

/-- ch[c].num_points, ch[c].pts <- DEFAULTS (R247, legacy layout). -/
def defaultForm (c : Chan) (s : State) : State :=
  s.setCh c { s.ch.get c with
    numPoints := (s.cfg.defaults.ch.get c).numPoints
    pts := (s.cfg.defaults.ch.get c).pts }

end Sys2Proof.Machine
end

