-- ==== Sys2Proof/Machine/HostCommands.lean ====
section
/-! DEFINITION. The control path, the parameter port and the state codec (spec/43_host.md R231 to R249),
and an op that is no command (spec/30_encoding.md R110). -/

namespace Sys2Proof.Machine

open Sys2Proof

/-! ## CONFIGURE and DECONFIGURE -/

/-- One channel of `engineRestore()` (R232): released mixer, volume, pan; a pan that is not finite is
refused after the first two (R161, R273). -/
def restoreChannel (c : Chan) (s : State) : Effect State :=
  let s1 := emit (.setMixer c false false false) s
  let s2 := emit (.setVolume c (apVol (s.ch.get c).volume)) s1
  match apPan (s.ch.get c).pan with
  | some p => .done (emit (.setPan c p Config.panFlags) s2)
  | none => .raised .nonFinite s2

/-- The end of `engineRestore()` (R232). -/
def restoreGlobals (s : State) : State :=
  emit (.setEnvelope (apPeriod s.g.envPeriod)) (emit (.setNoise (apNoise s.g.noisePeriod)) s)

/-- `engineRestore()` (R232). -/
def engineRestore (s : State) : Effect State :=
  (Effect.forEach restoreChannel [.ch0, .ch1, .ch2]
      (emit (.configure Config.engineArg0 (sext32 s.g.clockRate) s.e.sampleRate) s)).andThen
    (fun s' => .done (restoreGlobals s'))

/-- If V is Uninitialized: the defaults, and V <- Defaulted (R231, R249). -/
def defaultIfUninitialized (s : State) : State :=
  if s.v = .uninitialized then (installDefaults s).setV .defaulted else s

/-- The pseudocode of R231, with the order of causes of R276. -/
def configureBlock (sampleRate : Nat) (s : State) : Effect State :=
  if s.e.active then .raised .configActive s
  else if sampleRate = 0 then .raised .badRate s
  else
    let s1 := defaultIfUninitialized s
    if sext32 s1.g.clockRate ≤ 0 then .raised .badClock s1
    else engineRestore ((runtimeReset s1).activate sampleRate)

/-- The pseudocode of R233: nothing is emitted. -/
def deconfigureBlock (s : State) : State :=
  if s.e.active then runtimeReset (s.setActive false) else s

/-- CONFIGURE (R231). -/
def execConfigure (sampleRate : Nat) (s : State) : Result := .next (configureBlock sampleRate s).finish
/-- DECONFIGURE (R233). -/
def execDeconfigure (s : State) : Result := .next (deconfigureBlock s)

/-! ## PARAM_WRITE -/

/-- The parameter write of one field: the field is stored unchanged (R235) and what the matching event
emits is emitted, clamped (R236 to R245). -/
def writeParam (f : Field) (value : Word32) (s : State) : Effect State :=
  let s1 := f.write value s
  match f with
  | .mixer c => .done (emitMixer c value s1)
  | .volume c => .done (emit (.setVolume c (apVol value)) s1)
  | .pan c =>
    if s.e.active then
      match apPan value with
      | some p => .done (emit (.setPan c p Config.panFlags) s1)
      | none => .raised .nonFinite s1
    else .done s1
  | .envPeriod => .done (emit (.setEnvelope (apPeriod value)) s1)
  | .envShape => .done (emit (.setEnvelopeShape (apShape value)) s1)
  | .noisePeriod => .done (emit (.setNoise (apNoise value)) s1)
  | .clockRate => if s.e.active then .raised .configActive s else .done s1
  | .numPoints _ => .done s1
  | .time _ _ => .done s1
  | .ratio _ _ => .done s1

/-- The pseudocode of R234. -/
def paramBlock (id : BitVec 8) (value : Word32) (s : State) : Effect State :=
  match fieldOfParam id.toNat with
  | none => .raised .badParamId s
  | some f => writeParam f value s

/-- PARAM_WRITE (R234). -/
def execParamWrite (id : BitVec 8) (value : Word32) (s : State) : Result :=
  .next (paramBlock id value s).finish

/-! ## STATE_SAVE and STATE_LOAD -/

/-- The pseudocode of R246: no state change but the reply handed to the host. -/
def saveState (layout : Nat) (s : State) : Effect State :=
  match layout with
  | 0 => .done (s.pushReply (.blob (saveBlob Config.snapFull s)))
  | 1 => .done (s.pushReply (.blob (saveBlob Config.snapLegacy s)))
  | _ => .raised .badLayout s

/-- The pseudocode of R247: the layout is chosen by length. -/
def loadState (blob : List Byte) (s : State) : Effect State :=
  if s.e.active then .raised .configActive s
  else if blob.length < Config.snapLegacy then .done ((installDefaults s).setV .defaulted)
  else if blob.length < Config.snapFull then
    .done ((defaultForm .ch2 (defaultForm .ch1 (defaultForm .ch0
      (loadFields Config.snapLegacy blob s)))).setV .loaded)
  else .done ((loadFields Config.snapFull blob s).setV .loaded)

/-- STATE_SAVE (R246). -/
def execStateSave (layout : Nat) (s : State) : Result := .next (saveState layout s).finish
/-- STATE_LOAD (R247). -/
def execStateLoad (blob : List Byte) (s : State) : Result := .next (loadState blob s).finish

/-! ## An op that is no command -/

/-- BAD_OP (R110, R272). -/
def execBadOp (_op : BitVec 8) (s : State) : Result := .next (s.refuse .badOp)

end Sys2Proof.Machine
end

