-- ==== Sys2Proof/WellFormed.lean ====
section
/-! DEFINITION. Well-formedness: of a CCMAP (spec/00_scope.md R7), of a RENDER's output buffer
(spec/20_memory.md R72), and of an instruction against a CCMAP. -/

namespace Sys2Proof

/-- The eight single controller numbers of a CCMAP. -/
def CCMap.singles (m : CCMap) : List Nat :=
  [m.bank, m.volume, m.pan, m.eperH, m.eperM, m.eperL, m.eshape, m.dcReset]

/-- Whether k lies in SWENV_BASE .. SWENV_BASE + 12 (R106). -/
def CCMap.inSwenv (m : CCMap) (k : Nat) : Bool :=
  decide (m.swenvBase ≤ k) && decide (k ≤ m.swenvBase + 12)

/-- R7: pairwise distinct, each in 0..127, none in the software-envelope range, and the range ends at
127 or below. -/
def CCMap.wellFormed (m : CCMap) : Bool :=
  decide m.singles.Nodup && m.singles.all (fun k => decide (k ≤ 127)) &&
    m.singles.all (fun k => !m.inSwenv k) && decide (m.swenvBase + 12 ≤ 127)

/-- Whether a controller number selects a function of the CCMAP (R105). -/
def CCMap.selects (m : CCMap) (k : Nat) : Bool :=
  m.singles.contains k || m.inSwenv k

/-- R72: numOut output channels of N sample slots each. -/
def Buffer.hasShape (out : Buffer) (blockLen numOut : Nat) : Bool :=
  decide (out.length = numOut) && out.all (fun slots => decide (slots.length = blockLen))

/-- R110: the operation codes 0x01..0x06 are commands. -/
def validOp (op : BitVec 8) : Bool :=
  decide (1 ≤ op.toNat) && decide (op.toNat ≤ 6)

/-- An instruction that some word or record decodes to, under the CCMAP m: a NOTEON has a non-zero
velocity (R104 step 4), a CC_OTHER an unmapped controller (R105), a RENDER a buffer of its own shape
(R72), and a BAD_OP an op outside 0x01..0x06 (R110). Every other operand value is encodable. -/
def Instr.wf (m : CCMap) : Instr → Bool
  | .noteOn _ _ velocity => decide (velocity ≠ 0)
  | .ccOther _ k _ => !m.selects k.toNat
  | .render blockLen numOut _ prior => Buffer.hasShape prior blockLen numOut
  | .badOp op => !validOp op
  | .ignoredType07 _ | .ignoredTypeA _ | .ignoredTypeD _ | .ignoredTypeF _ | .ignoredCh3 _ _
  | .ignoredCh47 _ _ _ | .ignoredCh815 _ _ _ | .refusedBit7D1 _ _ _ _ | .refusedBit7D2T8 _ _ _
  | .refusedBit7D2T9 _ _ _ | .refusedBit7D2TB _ _ _ | .refusedBit7D2TE _ _ _ | .noteOnV0 _ _
  | .noteOff _ _ _ | .ccBank _ _ | .ccVolume _ _ | .ccPan _ _ | .ccEperH _ _
  | .ccEperM _ _ | .ccEperL _ _ | .ccEshape _ _ | .ccDcReset _ _ | .ccSwenvCount _ _
  | .ccSwenvTime0 _ _ | .ccSwenvRatio0 _ _ | .ccSwenvTime1 _ _ | .ccSwenvRatio1 _ _
  | .ccSwenvTime2 _ _ | .ccSwenvRatio2 _ _ | .ccSwenvTime3 _ _ | .ccSwenvRatio3 _ _
  | .ccSwenvTime4 _ _ | .ccSwenvRatio4 _ _ | .ccSwenvTime5 _ _ | .ccSwenvRatio5 _ _
  | .programChange _ _ _ | .pitchBend _ _ _ | .configure _ | .deconfigure | .paramWrite _ _
  | .stateSave _ | .stateLoad _ => true

end Sys2Proof
end

