-- ==== Sys2Proof/Decode.lean ====
section
/-! DEFINITION. Decoding event words and host command records (spec/30_encoding.md R100 to R113), and
the encoder written from the same tables. Decoding an event word is total (R113); the only record the
decoder rejects is a RENDER whose buffer has another shape than R72 gives it. -/

namespace Sys2Proof

/-- Why a byte string or a record is no instruction. -/
inductive DecodeError where
  /-- An event word is three bytes (R100). -/
  | notThreeBytes
  /-- A RENDER's prior buffer is not numOut channels of N slots (R72). Log 14. -/
  | bufferShape
  deriving DecidableEq, Repr

/-! ## Codes and fields -/

/-- The type nibble of an event (R101). -/
def EventType.code : EventType → BitVec 4
  | .noteOff => 0x8
  | .noteOn => 0x9
  | .controlChange => 0xB
  | .programChange => 0xC
  | .pitchBend => 0xE

/-- R101: the event type of a nibble; the others are no event of the set. -/
def EventType.ofCode (n : BitVec 4) : Option EventType :=
  match n.toNat with
  | 0x8 => some .noteOff
  | 0x9 => some .noteOn
  | 0xB => some .controlChange
  | 0xC => some .programChange
  | 0xE => some .pitchBend
  | _ => none

/-- The channel field of a channel index (R102). -/
def Chan.code : Chan → BitVec 4
  | .ch0 => 0
  | .ch1 => 1
  | .ch2 => 2

/-- R102: fields 0, 1 and 2 are channel indices. -/
def Chan.ofCode (n : BitVec 4) : Option Chan :=
  match n.toNat with
  | 0 => some .ch0
  | 1 => some .ch1
  | 2 => some .ch2
  | _ => none

/-- `type` = w[23:20] (R100). -/
def EventWord.type (w : EventWord) : BitVec 4 := w.extractLsb' 20 4
/-- `ch` = w[19:16] (R100). -/
def EventWord.chan (w : EventWord) : BitVec 4 := w.extractLsb' 16 4
/-- `d1h` = w[15] (R100). -/
def EventWord.d1h (w : EventWord) : Bool := w.getLsbD 15
/-- `d1` = w[14:8] (R100). -/
def EventWord.d1 (w : EventWord) : BitVec 7 := w.extractLsb' 8 7
/-- `d2h` = w[7] (R100). -/
def EventWord.d2h (w : EventWord) : Bool := w.getLsbD 7
/-- `d2` = w[6:0] (R100). -/
def EventWord.d2 (w : EventWord) : BitVec 7 := w.extractLsb' 0 7

/-! ## Event words -/

/-- R104 step 1, R111: a type outside the set, 0x0..0x7, 0xA, 0xD or 0xF. -/
def decodeUnknownType (w : EventWord) : Instr :=
  if w.getLsbD 23 = false then .ignoredType07 (w.extractLsb' 0 23)
  else if w.type = 0xA then .ignoredTypeA (w.extractLsb' 0 20)
  else if w.type = 0xD then .ignoredTypeD (w.extractLsb' 0 20)
  else .ignoredTypeF (w.extractLsb' 0 20)

/-- R104 step 2, R102: a recognized type on channel 3, 4..7 or 8..15. -/
def decodeIgnoredChannel (t : EventType) (w : EventWord) : Instr :=
  if w.getLsbD 19 then .ignoredCh815 t (w.extractLsb' 16 3) (w.extractLsb' 0 16)
  else if w.getLsbD 18 then .ignoredCh47 t (w.extractLsb' 16 2) (w.extractLsb' 0 16)
  else .ignoredCh3 t (w.extractLsb' 0 16)

/-- R105, R106: the software-envelope range, by the offset o = k - SWENV_BASE. -/
def decodeSwenv (m : CCMap) (c : Chan) (k v : BitVec 7) : Instr :=
  if m.swenvBase ≤ k.toNat then
    match k.toNat - m.swenvBase with
    | 0 => .ccSwenvCount c v
    | 1 => .ccSwenvTime0 c v
    | 2 => .ccSwenvRatio0 c v
    | 3 => .ccSwenvTime1 c v
    | 4 => .ccSwenvRatio1 c v
    | 5 => .ccSwenvTime2 c v
    | 6 => .ccSwenvRatio2 c v
    | 7 => .ccSwenvTime3 c v
    | 8 => .ccSwenvRatio3 c v
    | 9 => .ccSwenvTime4 c v
    | 10 => .ccSwenvRatio4 c v
    | 11 => .ccSwenvTime5 c v
    | 12 => .ccSwenvRatio5 c v
    | _ => .ccOther c k v
  else .ccOther c k v

/-- R105: a ControlChange selects its function by the controller number k. -/
def decodeController (m : CCMap) (c : Chan) (k v : BitVec 7) : Instr :=
  if k.toNat = m.bank then .ccBank c v
  else if k.toNat = m.pan then .ccPan c v
  else if k.toNat = m.volume then .ccVolume c v
  else if k.toNat = m.eperH then .ccEperH c v
  else if k.toNat = m.eperM then .ccEperM c v
  else if k.toNat = m.eperL then .ccEperL c v
  else if k.toNat = m.eshape then .ccEshape c v
  else if k.toNat = m.dcReset then .ccDcReset c v
  else decodeSwenv m c k v

/-- R103, R104 steps 3 to 5, for a recognized type on a channel 0..2. -/
def decodeData (m : CCMap) (t : EventType) (c : Chan) (w : EventWord) : Instr :=
  if w.d1h then .refusedBit7D1 t c w.d1 (w.extractLsb' 0 8)
  else match t with
    | .noteOff => if w.d2h then .refusedBit7D2T8 c w.d1 w.d2 else .noteOff c w.d1 w.d2
    | .noteOn =>
      if w.d2h then .refusedBit7D2T9 c w.d1 w.d2
      else if w.d2 = 0 then .noteOnV0 c w.d1
      else .noteOn c w.d1 w.d2
    | .controlChange =>
      if w.d2h then .refusedBit7D2TB c w.d1 w.d2 else decodeController m c w.d1 w.d2
    | .programChange => .programChange c w.d1 (w.extractLsb' 0 8)
    | .pitchBend => if w.d2h then .refusedBit7D2TE c w.d1 w.d2 else .pitchBend c w.d1 w.d2

/-- R104, R113: every 24-bit word decodes, the first test that matches deciding. -/
def decodeEvent (m : CCMap) (w : EventWord) : Instr :=
  match EventType.ofCode w.type with
  | none => decodeUnknownType w
  | some t =>
    match Chan.ofCode w.chan with
    | none => decodeIgnoredChannel t w
    | some c => decodeData m t c w

/-- R100: the word is transmitted status byte first. -/
def eventOfBytes (status b1 b2 : Byte) : EventWord := status ++ b1 ++ b2

/-- R100: the three bytes of an event word, in transmission order. -/
def bytesOfEvent (w : EventWord) : List Byte :=
  [w.extractLsb' 16 8, w.extractLsb' 8 8, w.extractLsb' 0 8]

/-- Decoding any byte string: three bytes are an event word (R100, R112), any other length is none. -/
def decodeEventBytes (m : CCMap) : List Byte → Except DecodeError Instr
  | [status, b1, b2] => .ok (decodeEvent m (eventOfBytes status b1 b2))
  | _ => .error .notThreeBytes

/-! ## Host command records -/

/-- R110: the command of a record, by its operation code; any other op is BAD_OP. -/
def decodeRecord (r : HostRecord) : Except DecodeError Instr :=
  match r.op.toNat with
  | 0x01 => .ok (.configure r.sampleRate)
  | 0x02 => .ok .deconfigure
  | 0x03 =>
    if Buffer.hasShape r.prior r.blockLen r.numOut then
      .ok (.render r.blockLen r.numOut r.events r.prior)
    else .error .bufferShape
  | 0x04 => .ok (.paramWrite r.paramId r.value)
  | 0x05 => .ok (.stateSave r.layout)
  | 0x06 => .ok (.stateLoad r.blob)
  | _ => .ok (.badOp r.op)

/-- Decoding an encoded instruction under the CCMAP m. -/
def decode (m : CCMap) : Encoded → Except DecodeError Instr
  | .event w => .ok (decodeEvent m w)
  | .host r => decodeRecord r

/-! ## Encoder -/

/-- The word of four fields: type, channel, and the two low bytes (R100). -/
def packWord (t ch : BitVec 4) (b1 b2 : Byte) : EventWord := t ++ ch ++ b1 ++ b2

/-- A data byte: bit 7 clear (R103). -/
def dataByte (d : BitVec 7) : Byte := (0 : BitVec 1) ++ d

/-- A malformed data byte: bit 7 set (R103). -/
def badByte (d : BitVec 7) : Byte := (1 : BitVec 1) ++ d

/-- The word of a ControlChange with controller number k (R101, R105). -/
def ccWord (c : Chan) (k : Nat) (v : BitVec 7) : EventWord :=
  packWord EventType.controlChange.code c.code (dataByte (BitVec.ofNat 7 k)) (dataByte v)

/-- The encoding of an instruction under the CCMAP m, from R100 to R106 and R110. -/
def encode (m : CCMap) : Instr → Encoded
  | .ignoredType07 body => .event ((0 : BitVec 1) ++ body)
  | .ignoredTypeA body => .event ((0xA : BitVec 4) ++ body)
  | .ignoredTypeD body => .event ((0xD : BitVec 4) ++ body)
  | .ignoredTypeF body => .event ((0xF : BitVec 4) ++ body)
  | .ignoredCh3 t body => .event (t.code ++ (3 : BitVec 4) ++ body)
  | .ignoredCh47 t low body => .event (t.code ++ (1 : BitVec 2) ++ low ++ body)
  | .ignoredCh815 t low body => .event (t.code ++ (1 : BitVec 1) ++ low ++ body)
  | .refusedBit7D1 t c d1 low => .event (packWord t.code c.code (badByte d1) low)
  | .refusedBit7D2T8 c d1 d2 =>
    .event (packWord EventType.noteOff.code c.code (dataByte d1) (badByte d2))
  | .refusedBit7D2T9 c d1 d2 =>
    .event (packWord EventType.noteOn.code c.code (dataByte d1) (badByte d2))
  | .refusedBit7D2TB c d1 d2 =>
    .event (packWord EventType.controlChange.code c.code (dataByte d1) (badByte d2))
  | .refusedBit7D2TE c d1 d2 =>
    .event (packWord EventType.pitchBend.code c.code (dataByte d1) (badByte d2))
  | .noteOnV0 c key => .event (packWord EventType.noteOn.code c.code (dataByte key) 0)
  | .noteOn c key velocity =>
    .event (packWord EventType.noteOn.code c.code (dataByte key) (dataByte velocity))
  | .noteOff c key velocity =>
    .event (packWord EventType.noteOff.code c.code (dataByte key) (dataByte velocity))
  | .ccBank c v => .event (ccWord c m.bank v)
  | .ccVolume c v => .event (ccWord c m.volume v)
  | .ccPan c v => .event (ccWord c m.pan v)
  | .ccEperH c v => .event (ccWord c m.eperH v)
  | .ccEperM c v => .event (ccWord c m.eperM v)
  | .ccEperL c v => .event (ccWord c m.eperL v)
  | .ccEshape c v => .event (ccWord c m.eshape v)
  | .ccDcReset c v => .event (ccWord c m.dcReset v)
  | .ccSwenvCount c v => .event (ccWord c m.swenvBase v)
  | .ccSwenvTime0 c v => .event (ccWord c (m.swenvBase + 1) v)
  | .ccSwenvRatio0 c v => .event (ccWord c (m.swenvBase + 2) v)
  | .ccSwenvTime1 c v => .event (ccWord c (m.swenvBase + 3) v)
  | .ccSwenvRatio1 c v => .event (ccWord c (m.swenvBase + 4) v)
  | .ccSwenvTime2 c v => .event (ccWord c (m.swenvBase + 5) v)
  | .ccSwenvRatio2 c v => .event (ccWord c (m.swenvBase + 6) v)
  | .ccSwenvTime3 c v => .event (ccWord c (m.swenvBase + 7) v)
  | .ccSwenvRatio3 c v => .event (ccWord c (m.swenvBase + 8) v)
  | .ccSwenvTime4 c v => .event (ccWord c (m.swenvBase + 9) v)
  | .ccSwenvRatio4 c v => .event (ccWord c (m.swenvBase + 10) v)
  | .ccSwenvTime5 c v => .event (ccWord c (m.swenvBase + 11) v)
  | .ccSwenvRatio5 c v => .event (ccWord c (m.swenvBase + 12) v)
  | .ccOther c k v => .event (ccWord c k.toNat v)
  | .programChange c pv low =>
    .event (packWord EventType.programChange.code c.code (dataByte pv) low)
  | .pitchBend c lsb msb =>
    .event (packWord EventType.pitchBend.code c.code (dataByte lsb) (dataByte msb))
  | .configure sr => .host { op := 0x01, sampleRate := sr }
  | .deconfigure => .host { op := 0x02 }
  | .render n numOut events prior =>
    .host { op := 0x03, blockLen := n, numOut := numOut, events := events, prior := prior }
  | .paramWrite id value => .host { op := 0x04, paramId := id, value := value }
  | .stateSave layout => .host { op := 0x05, layout := layout }
  | .stateLoad blob => .host { op := 0x06, blob := blob }
  | .badOp op => .host { op := op }

/-! ## The opcode table's own numbering -/

/-- The host record of one op byte with every operand zero. -/
def recordOfOp (w : Nat) : HostRecord := { op := BitVec.ofNat 8 w }

/-- The instruction read from an opcode-table word under the standard CCMAP: a row of up to eight bits
is a host op whose operands are all zero, a longer one an event word, given to the decoder as its
three bytes in transmission order (R100, R110). -/
def decodeTableWord (nbits w : Nat) : Option Instr :=
  if nbits ≤ 8 then (decodeRecord (recordOfOp w)).toOption
  else (decodeEventBytes Config.standardCcmap (bytesOfEvent (BitVec.ofNat 24 w))).toOption

end Sys2Proof
end

