-- ==== Sys2Proof/Machine/Control.lean ====
section
/-! DEFINITION. The plain controllers (spec/41_events.md R167 to R175, R181). -/

namespace Sys2Proof.Machine

open Sys2Proof

/-- The pseudocode of R167: v[2:0] to the mixer. -/
def writeBank (c : Chan) (v : BitVec 7) (s : State) : State :=
  let m := word32 (v.extractLsb' 0 3).toNat
  emitMixer c m (s.setMixer c m)

/-- The pseudocode of R169; vol_cache is not written. -/
def writeVolume (c : Chan) (v : BitVec 7) (s : State) : State :=
  emit (.setVolume c (volumeOf v)) (s.setVolume c (word32 (volumeOf v)))

/-- The pseudocode of R168. -/
def writePan (c : Chan) (v : BitVec 7) (s : State) : State :=
  emit (.setPan c (panPosition v) Config.panFlags) (s.setPan c (toF32 (panPosition v)))

/-- The composition of R170 after a fragment write: the 21-bit register, stored and emitted saturated
to 65535 (spec/90_conflicts.md C1). -/
def composePeriod (s : State) : State :=
  emit (.setEnvelope (composedPeriod s.x))
    (s.setG { s.g with envPeriod := word32 (composedPeriod s.x) })

/-- The pseudocode of R174. -/
def writeShape (v : BitVec 7) (s : State) : State :=
  emit (.setEnvelopeShape (v.extractLsb' 0 4).toNat)
    (s.setG { s.g with envShape := word32 (v.extractLsb' 0 4).toNat })

/-- The pseudocode of R171. -/
def writeFragH (v : BitVec 7) (s : State) : State := composePeriod (s.setX { s.x with h := v })
/-- The pseudocode of R172. -/
def writeFragM (v : BitVec 7) (s : State) : State := composePeriod (s.setX { s.x with m := v })
/-- The pseudocode of R173. -/
def writeFragL (v : BitVec 7) (s : State) : State := composePeriod (s.setX { s.x with l := v })

/-- The pseudocode of R175: the block stores nothing. -/
def resetDc (s : State) : State := emit .removeDc s

/-- CC_BANK (R167). -/
def execCcBank (c : Chan) (v : BitVec 7) (s : State) : Result := .next (writeBank c v s)
/-- CC_VOLUME (R169). -/
def execCcVolume (c : Chan) (v : BitVec 7) (s : State) : Result := .next (writeVolume c v s)
/-- CC_PAN (R168). -/
def execCcPan (c : Chan) (v : BitVec 7) (s : State) : Result := .next (writePan c v s)
/-- CC_EPER_H (R171): the channel only takes part in the channel check. -/
def execCcEperH (_c : Chan) (v : BitVec 7) (s : State) : Result := .next (writeFragH v s)
/-- CC_EPER_M (R172). -/
def execCcEperM (_c : Chan) (v : BitVec 7) (s : State) : Result := .next (writeFragM v s)
/-- CC_EPER_L (R173). -/
def execCcEperL (_c : Chan) (v : BitVec 7) (s : State) : Result := .next (writeFragL v s)
/-- CC_ESHAPE (R174). -/
def execCcEshape (_c : Chan) (v : BitVec 7) (s : State) : Result := .next (writeShape v s)
/-- CC_DCRESET (R175): the value is ignored. -/
def execCcDcReset (_c : Chan) (_v : BitVec 7) (s : State) : Result := .next (resetDc s)
/-- CC_OTHER (R181): ignored. -/
def execCcOther (_c : Chan) (_k _v : BitVec 7) (s : State) : Result := .next (ignoreWord s)

end Sys2Proof.Machine
end

