-- ==== Sys2Proof/Machine/Envelope.lean ====
section
/-! DEFINITION. The envelope curve evaluator (spec/40_envelope.md R140 to R150), a pure function, and
the effective volume (spec/42_renderer.md R208). All arithmetic is exact in Q. -/

namespace Sys2Proof.Machine

open Sys2Proof

/-- Linear interpolation from (ts, rs) to (ti, ri) at e, the zero-length segment guarded by progress 1
(R144, R145). -/
def interpolate (e ts rs ti ri : Rat) : Rat :=
  let d := ti - ts
  let progress := if d = 0 then 1 else (e - ts) / d
  rs + progress * (ri - rs)

/-- The ratio field of a breakpoint, refused if it is not finite (R149). -/
def readRatio (p : Point) : Except Reason Rat :=
  match F32.val p.ratio with
  | some r => .ok r
  | none => .error .nonFinite

/-- The segment that ends at a selected breakpoint p of time ti, from the previous breakpoint (whose time
was read by the scan) or from the implicit origin (0, 0) (R144, R149). -/
def segmentRatio (e : Rat) (prev : Option (Rat × Point)) (ti : Rat) (p : Point) : Except Reason Rat :=
  match prev with
  | none =>
    match readRatio p with
    | .ok ri => .ok (interpolate e 0 0 ti ri)
    | .error why => .error why
  | some (ts, q) =>
    match readRatio q, readRatio p with
    | .ok rs, .ok ri => .ok (interpolate e ts rs ti ri)
    | .error why, _ => .error why
    | .ok _, .error why => .error why

/-- The scan of R142 over the breakpoints not yet rejected: the first with e < T_j is selected; when
none is left, the last ratio is held (R143). A time that is not finite is refused when it is read
(R149); an empty form is refused (R141). -/
def scan (e : Rat) (prev : Option (Rat × Point)) : List Point → Except Reason Rat
  | [] =>
    match prev with
    | none => .error .emptyForm
    | some (_, p) => readRatio p
  | p :: rest =>
    match F32.val p.time with
    | none => .error .nonFinite
    | some t => if e < t then segmentRatio e prev t p else scan e (some (t, p)) rest

/-- The breakpoints the evaluator reads: the first n(c) (R140). -/
def form (k : Channel) : List Point := (k.pts.toList).take (effCount k.numPoints)

/-- `ratio(e, form)` (R140). -/
def ratio (e : Rat) (pts : List Point) : Except Reason Rat := scan e none pts

/-- `effVol(c, r) = clamp(round(ch[c].volume · r), 0, 14)` (R208). -/
def effVol (volume : Word32) (r : Rat) : Nat :=
  (clampInt (roundRat ((sext32 volume : Rat) * r)) 0 Config.volMax).toNat

end Sys2Proof.Machine
end

