-- ==== Sys2Proof/Machine/Note.lean ====
section
/-! DEFINITION. Note events, ProgramChange and PitchBend (spec/41_events.md R162 to R166, R182). -/

namespace Sys2Proof.Machine

open Sys2Proof

/-- The optional shape perturbation of NoteOff (R162, D13). -/
def perturbShape (s : State) : State :=
  match s.cfg.noteOffPerturb with
  | none => s
  | some shape => emit (.setEnvelopeShape shape.toNat) s

/-- The pseudocode of R162, which R164 shares: release channel c. -/
def releaseVoice (c : Chan) (s : State) : State :=
  if s.noteOn c = false then s
  else (perturbShape (emit (.setMixer c false false false) s)).setNoteOn c false

/-- The pseudocode of R163: start a note of the given key on channel c. -/
def startVoice (c : Chan) (key : BitVec 7) (s : State) : State :=
  if s.noteOn c = true then s
  else
    let s1 := emitMixer c (s.ch.get c).mixer s
    let s2 := emit (.setEnvelopeShape (apShape s.g.envShape)) s1
    let s3 := s2.setStartTime c s.e.elapsed
    let s4 := emit (.setTone c (tonePeriod (sext32 s.g.clockRate) key)) s3
    s4.setNoteOn c true

/-- The pseudocode of R166. -/
def changeProgram (c : Chan) (pv : BitVec 7) (s : State) : State :=
  let s1 := s.setG { s.g with noisePeriod := word32 (programNoise pv) }
  let s2 := s1.setMixer c (word32 (programMixer pv))
  emitMixer c (word32 (programMixer pv)) (emit (.setNoise (programNoise pv)) s2)

/-- The pseudocode of R182: store only. -/
def storeBend (c : Chan) (lsb msb : BitVec 7) (s : State) : State :=
  s.setE { s.e with pitchBend := s.e.pitchBend.set c (bendOf lsb msb) }

/-- NOTEON_V0 (R164). -/
def execNoteOnV0 (c : Chan) (_key : BitVec 7) (s : State) : Result := .next (releaseVoice c s)
/-- NOTEON (R163): the velocity has no effect. -/
def execNoteOn (c : Chan) (key _velocity : BitVec 7) (s : State) : Result := .next (startVoice c key s)
/-- NOTEOFF (R162): key and velocity have no effect. -/
def execNoteOff (c : Chan) (_key _velocity : BitVec 7) (s : State) : Result := .next (releaseVoice c s)
/-- PROGRAM_CHANGE (R166). -/
def execProgramChange (c : Chan) (pv : BitVec 7) (_low : BitVec 8) (s : State) : Result :=
  .next (changeProgram c pv s)
/-- PITCH_BEND (R182). -/
def execPitchBend (c : Chan) (lsb msb : BitVec 7) (s : State) : Result := .next (storeBend c lsb msb s)

end Sys2Proof.Machine
end

