-- ==== Sys2Proof/Machine/SwEnv.lean ====
section
/-! DEFINITION. The software-envelope controllers (spec/41_events.md R178 to R180): stores to the
breakpoint form only, nothing emitted. -/

namespace Sys2Proof.Machine

open Sys2Proof

/-- The pseudocode of R178: store min(v, 6). -/
def writeCount (c : Chan) (v : BitVec 7) (s : State) : State :=
  s.setNumPoints c (word32 (min v.toNat Config.maxPts))

/-- The pseudocode of R179. -/
def writeTime (c : Chan) (k : PtIdx) (v : BitVec 7) (s : State) : State := s.setTime c k (decTime v)

/-- The pseudocode of R180. -/
def writeRatio (c : Chan) (k : PtIdx) (v : BitVec 7) (s : State) : State := s.setRatio c k (decRatio v)

/-- CC_SWENV_COUNT (R178). -/
def execCcSwenvCount (c : Chan) (v : BitVec 7) (s : State) : Result := .next (writeCount c v s)
/-- CC_SWENV_TIME0 (R179). -/
def execCcSwenvTime0 (c : Chan) (v : BitVec 7) (s : State) : Result := .next (writeTime c .pt0 v s)
/-- CC_SWENV_RATIO0 (R180). -/
def execCcSwenvRatio0 (c : Chan) (v : BitVec 7) (s : State) : Result := .next (writeRatio c .pt0 v s)
/-- CC_SWENV_TIME1 (R179). -/
def execCcSwenvTime1 (c : Chan) (v : BitVec 7) (s : State) : Result := .next (writeTime c .pt1 v s)
/-- CC_SWENV_RATIO1 (R180). -/
def execCcSwenvRatio1 (c : Chan) (v : BitVec 7) (s : State) : Result := .next (writeRatio c .pt1 v s)
/-- CC_SWENV_TIME2 (R179). -/
def execCcSwenvTime2 (c : Chan) (v : BitVec 7) (s : State) : Result := .next (writeTime c .pt2 v s)
/-- CC_SWENV_RATIO2 (R180). -/
def execCcSwenvRatio2 (c : Chan) (v : BitVec 7) (s : State) : Result := .next (writeRatio c .pt2 v s)
/-- CC_SWENV_TIME3 (R179). -/
def execCcSwenvTime3 (c : Chan) (v : BitVec 7) (s : State) : Result := .next (writeTime c .pt3 v s)
/-- CC_SWENV_RATIO3 (R180). -/
def execCcSwenvRatio3 (c : Chan) (v : BitVec 7) (s : State) : Result := .next (writeRatio c .pt3 v s)
/-- CC_SWENV_TIME4 (R179). -/
def execCcSwenvTime4 (c : Chan) (v : BitVec 7) (s : State) : Result := .next (writeTime c .pt4 v s)
/-- CC_SWENV_RATIO4 (R180). -/
def execCcSwenvRatio4 (c : Chan) (v : BitVec 7) (s : State) : Result := .next (writeRatio c .pt4 v s)
/-- CC_SWENV_TIME5 (R179). -/
def execCcSwenvTime5 (c : Chan) (v : BitVec 7) (s : State) : Result := .next (writeTime c .pt5 v s)
/-- CC_SWENV_RATIO5 (R180). -/
def execCcSwenvRatio5 (c : Chan) (v : BitVec 7) (s : State) : Result := .next (writeRatio c .pt5 v s)

end Sys2Proof.Machine
end

