-- ==== Sys2Proof/Machine/Render.lean ====
section
/-! DEFINITION. The block renderer: the RENDER host command (spec/42_renderer.md R200 to R212). -/

namespace Sys2Proof.Machine

open Sys2Proof

/-- The transient elements of one RENDER in progress beside the block's state (spec/10_state.md R50):
the cursor and the output buffer as written so far. -/
structure Rendering where
  st : State
  cursor : Nat
  out : Buffer
  deriving DecidableEq, Repr

/-! ## Applying an event (R160, R203) -/

/-- Apply one decoded event: the meaning of its instruction. A word refused with DATA_BIT7 never reaches
this point, because the upfront check refuses the RENDER (R201); a host command is no decode outcome of
an event word (R113) and changes nothing here; log 16. -/
def applyEvent (i : Instr) (s : State) : Result :=
  match i with
  | .ignoredType07 body => execIgnoredType07 body s
  | .ignoredTypeA body => execIgnoredTypeA body s
  | .ignoredTypeD body => execIgnoredTypeD body s
  | .ignoredTypeF body => execIgnoredTypeF body s
  | .ignoredCh3 t body => execIgnoredCh3 t body s
  | .ignoredCh47 t low body => execIgnoredCh47 t low body s
  | .ignoredCh815 t low body => execIgnoredCh815 t low body s
  | .refusedBit7D1 t c d1 low => execRefusedBit7D1 t c d1 low s
  | .refusedBit7D2T8 c d1 d2 => execRefusedBit7D2T8 c d1 d2 s
  | .refusedBit7D2T9 c d1 d2 => execRefusedBit7D2T9 c d1 d2 s
  | .refusedBit7D2TB c d1 d2 => execRefusedBit7D2TB c d1 d2 s
  | .refusedBit7D2TE c d1 d2 => execRefusedBit7D2TE c d1 d2 s
  | .noteOnV0 c key => execNoteOnV0 c key s
  | .noteOn c key velocity => execNoteOn c key velocity s
  | .noteOff c key velocity => execNoteOff c key velocity s
  | .ccBank c v => execCcBank c v s
  | .ccVolume c v => execCcVolume c v s
  | .ccPan c v => execCcPan c v s
  | .ccEperH c v => execCcEperH c v s
  | .ccEperM c v => execCcEperM c v s
  | .ccEperL c v => execCcEperL c v s
  | .ccEshape c v => execCcEshape c v s
  | .ccDcReset c v => execCcDcReset c v s
  | .ccSwenvCount c v => execCcSwenvCount c v s
  | .ccSwenvTime0 c v => execCcSwenvTime0 c v s
  | .ccSwenvRatio0 c v => execCcSwenvRatio0 c v s
  | .ccSwenvTime1 c v => execCcSwenvTime1 c v s
  | .ccSwenvRatio1 c v => execCcSwenvRatio1 c v s
  | .ccSwenvTime2 c v => execCcSwenvTime2 c v s
  | .ccSwenvRatio2 c v => execCcSwenvRatio2 c v s
  | .ccSwenvTime3 c v => execCcSwenvTime3 c v s
  | .ccSwenvRatio3 c v => execCcSwenvRatio3 c v s
  | .ccSwenvTime4 c v => execCcSwenvTime4 c v s
  | .ccSwenvRatio4 c v => execCcSwenvRatio4 c v s
  | .ccSwenvTime5 c v => execCcSwenvTime5 c v s
  | .ccSwenvRatio5 c v => execCcSwenvRatio5 c v s
  | .ccOther c k v => execCcOther c k v s
  | .programChange c pv low => execProgramChange c pv low s
  | .pitchBend c lsb msb => execPitchBend c lsb msb s
  | .configure _ | .deconfigure | .render _ _ _ _ | .paramWrite _ _ => .next s
  | .stateSave _ | .stateLoad _ | .badOp _ => .next s

/-- The state after an event. Every event meaning answers a next state (R160: no event rule can be
refused once decoded); the other outcomes are not reached and leave the state as it was. -/
def stateAfter (r : Result) (s : State) : State :=
  match r with
  | .next t => t
  | .fault _ => s
  | .refused _ => s

/-- The state after applying an event word (R203). -/
def applyWord (w : EventWord) (s : State) : State :=
  stateAfter (applyEvent (decodeEvent s.cfg.ccmap w) s) s

/-! ## One sample (R206 to R211) -/

/-- `t(i) = T_blk + i / E.sample_rate` (R210). -/
def sampleTime (tBlk : Rat) (i : Nat) (s : State) : Rat := tBlk + (i : Rat) / (s.e.sampleRate : Rat)

/-- Write an effective volume to the engine and the cache, only if it differs from the cache (R207). -/
def updateVolume (c : Chan) (v : Nat) (s : State) : State :=
  if (s.rt.get c).volCache = some v then s
  else (emit (.setVolume c v) s).setVolCache c v

/-- The stride recomputation of one channel at time t (R207): visited only if it is note-on and its form
is not empty; the ratio at the time since note-on (R209), refused if it has no value (R149). -/
def strideChannel (t : Rat) (c : Chan) (s : State) : Effect State :=
  if s.noteOn c = true ∧ 0 < effCount (s.ch.get c).numPoints then
    match ratio (t - (s.rt.get c).startTime) (form (s.ch.get c)) with
    | .ok r => .done (updateVolume c (effVol (s.ch.get c).volume r) s)
    | .error why => .raised why s
  else .done s

/-- `strideRecompute(i)`: channels 0, 1, 2 in order (R207). -/
def strideRecompute (t : Rat) (s : State) : Effect State :=
  Effect.forEach (strideChannel t) [.ch0, .ch1, .ch2] s

/-- out[k][i] <- x. -/
def writeSlot (out : Buffer) (k i : Nat) (x : Sample) : Buffer := out.modify k (fun slots => slots.set i x)

/-- `outputCopy(i, L, R)` (R211): mono sums to channel 0, stereo and above write channels 0 and 1. -/
def outputCopy (numOut i : Nat) (left right : Sample) (out : Buffer) : Buffer :=
  match numOut with
  | 0 => out
  | 1 => writeSlot out 0 i (Config.sampleSum left right)
  | _ + 2 => writeSlot (writeSlot out 0 i left) 1 i right

/-- Emit process() and remove_dc(), take the engine's answer and copy it to the output (R206). -/
def clockEngine (numOut i : Nat) (r : Rendering) : Rendering :=
  let s := emit .removeDc (emit .process r.st)
  let answer := Config.engineAnswer s.answerIndex s.trace
  { r with st := s.countAnswer, out := outputCopy numOut i answer.1 answer.2 r.out }

/-- The body of a rendered range for sample i (R206). -/
def renderSample (tBlk : Rat) (numOut i : Nat) (r : Rendering) : Effect Rendering :=
  if i % Config.stride = 0 then
    match strideRecompute (sampleTime tBlk i r.st) r.st with
    | .done s => .done (clockEngine numOut i { r with st := s })
    | .raised why s => .raised why { r with st := s }
  else .done (clockEngine numOut i r)

/-- The body for `count` samples from a on, in increasing order (R206). -/
def renderSamples (tBlk : Rat) (numOut : Nat) : Nat → Nat → Rendering → Effect Rendering
  | 0, _, r => .done r
  | count + 1, a, r =>
    (renderSample tBlk numOut a r).andThen (renderSamples tBlk numOut count (a + 1))

/-- `renderRange(a, b)` (R205): an empty range does nothing, a skipped one emits and writes nothing; the
test is made once, at the start of the range. -/
def renderRange (tBlk : Rat) (numOut a b : Nat) (r : Rendering) : Effect Rendering :=
  if b ≤ a then .done r
  else if r.st.skips then .done r
  else renderSamples tBlk numOut (b - a) a r

/-! ## The whole command -/

/-- Render up to an event's offset and move the cursor there; nothing in between if the offset equals
the cursor (R203). -/
def advanceTo (tBlk : Rat) (blockLen numOut off : Nat) (r : Rendering) : Effect Rendering :=
  if off = r.cursor then .done r
  else
    (renderRange tBlk numOut r.cursor (min off blockLen) r).andThen
      (fun r' => .done { r' with cursor := min off blockLen })

/-- The event loop (R203): each event in list order, after the samples before its offset. -/
def eventLoop (tBlk : Rat) (blockLen numOut : Nat) : List TimedEvent → Rendering → Effect Rendering
  | [], r => .done r
  | (w, off) :: rest, r =>
    (advanceTo tBlk blockLen numOut off r).andThen (fun r' =>
      eventLoop tBlk blockLen numOut rest { r' with st := applyWord w r'.st })

/-- The trailing range (R204), after which the cursor is N (R52). -/
def trailingRange (tBlk : Rat) (blockLen numOut : Nat) (r : Rendering) : Effect Rendering :=
  (renderRange tBlk numOut r.cursor blockLen r).andThen
    (fun r' => .done { r' with cursor := blockLen })

/-- The event loop, then the trailing range: the cursor goes from 0 to N, forward only (R52, R203,
R204). -/
def renderEvents (tBlk : Rat) (blockLen numOut : Nat) (events : List TimedEvent) (r : Rendering) :
    Effect Rendering :=
  (eventLoop tBlk blockLen numOut events r).andThen (trailingRange tBlk blockLen numOut)

/-- Whether the offsets never decrease (R201). -/
def offsetsOrdered : List TimedEvent → Bool
  | [] => true
  | [_] => true
  | a :: b :: rest => decide (a.2 ≤ b.2) && offsetsOrdered (b :: rest)

/-- Whether some event word decodes to REFUSED(DATA_BIT7) (R201). -/
def anyDataBit7 (m : CCMap) (events : List TimedEvent) : Bool :=
  events.any (fun ev => (decodeEvent m ev.1).isDataBit7)

/-- R212: the elapsed time advances by N / sample_rate, while active. -/
def advanceElapsed (blockLen : Nat) (s : State) : State :=
  if s.e.active then
    s.setE { s.e with elapsed := s.e.elapsed + (blockLen : Rat) / (s.e.sampleRate : Rat) }
  else s

/-- The end of a RENDER: complete (R212), or refused partway with what was done kept (R273); the buffer
goes back to the host in both cases (R12, R273; log 12). -/
def finishRender (blockLen : Nat) (x : Effect Rendering) : State :=
  match x with
  | .done r => (advanceElapsed blockLen r.st).pushReply (.buffer r.out)
  | .raised why r => (r.st.pushReply (.buffer r.out)).refuse why

/-- The RENDER command (R200 to R212): the upfront check of R201, in the order of R276, then the block
from cursor 0 with T_blk = E.elapsed (R202). -/
def renderBlock (blockLen numOut : Nat) (events : List TimedEvent) (prior : Buffer) (s : State) :
    State :=
  if offsetsOrdered events = false then s.refuse .offsetOrder
  else if anyDataBit7 s.cfg.ccmap events then s.refuse .dataBit7
  else finishRender blockLen
    (renderEvents s.e.elapsed blockLen numOut events { st := s, cursor := 0, out := prior })

/-- RENDER (R200). -/
def execRender (blockLen numOut : Nat) (events : List TimedEvent) (prior : Buffer) (s : State) :
    Result := .next (renderBlock blockLen numOut events prior s)

end Sys2Proof.Machine
end

