-- ==== Sys2Proof/Machine/Dispatch.lean ====
section
/-! DEFINITION. The meaning of each instruction, one arm for each constructor of `Instr`. -/

namespace Sys2Proof.Machine

open Sys2Proof

def exec (i : Instr) (s : State) : Host.Outcome State Fault Refusal :=
  match i with
  | .ignoredType07 body => Sys2Proof.Machine.execIgnoredType07 body s
  | .ignoredTypeA body => Sys2Proof.Machine.execIgnoredTypeA body s
  | .ignoredTypeD body => Sys2Proof.Machine.execIgnoredTypeD body s
  | .ignoredTypeF body => Sys2Proof.Machine.execIgnoredTypeF body s
  | .ignoredCh3 t body => Sys2Proof.Machine.execIgnoredCh3 t body s
  | .ignoredCh47 t low body => Sys2Proof.Machine.execIgnoredCh47 t low body s
  | .ignoredCh815 t low body => Sys2Proof.Machine.execIgnoredCh815 t low body s
  | .refusedBit7D1 t c d1 low => Sys2Proof.Machine.execRefusedBit7D1 t c d1 low s
  | .refusedBit7D2T8 c d1 d2 => Sys2Proof.Machine.execRefusedBit7D2T8 c d1 d2 s
  | .refusedBit7D2T9 c d1 d2 => Sys2Proof.Machine.execRefusedBit7D2T9 c d1 d2 s
  | .refusedBit7D2TB c d1 d2 => Sys2Proof.Machine.execRefusedBit7D2TB c d1 d2 s
  | .refusedBit7D2TE c d1 d2 => Sys2Proof.Machine.execRefusedBit7D2TE c d1 d2 s
  | .noteOnV0 c key => Sys2Proof.Machine.execNoteOnV0 c key s
  | .noteOn c key velocity => Sys2Proof.Machine.execNoteOn c key velocity s
  | .noteOff c key velocity => Sys2Proof.Machine.execNoteOff c key velocity s
  | .ccBank c v => Sys2Proof.Machine.execCcBank c v s
  | .ccVolume c v => Sys2Proof.Machine.execCcVolume c v s
  | .ccPan c v => Sys2Proof.Machine.execCcPan c v s
  | .ccEperH c v => Sys2Proof.Machine.execCcEperH c v s
  | .ccEperM c v => Sys2Proof.Machine.execCcEperM c v s
  | .ccEperL c v => Sys2Proof.Machine.execCcEperL c v s
  | .ccEshape c v => Sys2Proof.Machine.execCcEshape c v s
  | .ccDcReset c v => Sys2Proof.Machine.execCcDcReset c v s
  | .ccSwenvCount c v => Sys2Proof.Machine.execCcSwenvCount c v s
  | .ccSwenvTime0 c v => Sys2Proof.Machine.execCcSwenvTime0 c v s
  | .ccSwenvRatio0 c v => Sys2Proof.Machine.execCcSwenvRatio0 c v s
  | .ccSwenvTime1 c v => Sys2Proof.Machine.execCcSwenvTime1 c v s
  | .ccSwenvRatio1 c v => Sys2Proof.Machine.execCcSwenvRatio1 c v s
  | .ccSwenvTime2 c v => Sys2Proof.Machine.execCcSwenvTime2 c v s
  | .ccSwenvRatio2 c v => Sys2Proof.Machine.execCcSwenvRatio2 c v s
  | .ccSwenvTime3 c v => Sys2Proof.Machine.execCcSwenvTime3 c v s
  | .ccSwenvRatio3 c v => Sys2Proof.Machine.execCcSwenvRatio3 c v s
  | .ccSwenvTime4 c v => Sys2Proof.Machine.execCcSwenvTime4 c v s
  | .ccSwenvRatio4 c v => Sys2Proof.Machine.execCcSwenvRatio4 c v s
  | .ccSwenvTime5 c v => Sys2Proof.Machine.execCcSwenvTime5 c v s
  | .ccSwenvRatio5 c v => Sys2Proof.Machine.execCcSwenvRatio5 c v s
  | .ccOther c k v => Sys2Proof.Machine.execCcOther c k v s
  | .programChange c pv low => Sys2Proof.Machine.execProgramChange c pv low s
  | .pitchBend c lsb msb => Sys2Proof.Machine.execPitchBend c lsb msb s
  | .configure sampleRate => Sys2Proof.Machine.execConfigure sampleRate s
  | .deconfigure => Sys2Proof.Machine.execDeconfigure s
  | .render blockLen numOut events prior => Sys2Proof.Machine.execRender blockLen numOut events prior s
  | .paramWrite id value => Sys2Proof.Machine.execParamWrite id value s
  | .stateSave layout => Sys2Proof.Machine.execStateSave layout s
  | .stateLoad blob => Sys2Proof.Machine.execStateLoad blob s
  | .badOp op => Sys2Proof.Machine.execBadOp op s

end Sys2Proof.Machine
end

