-- ==== Sys2Proof/Machine/Step.lean ====
section
/-! DEFINITION. One step of the machine: take the next host command, decode it, execute it to completion
(spec/00_scope.md R2, spec/43_host.md R230). -/

namespace Sys2Proof.Machine

open Sys2Proof

/-- One step. A configuration whose CCMAP is not well formed is refused (R7); a state whose refusal mark
is set has no step (R230, R273); with no command issued the block waits, unchanged (R304, log 2);
otherwise the first command is taken from the list, decoded and executed as one atomic step (R2, R82). -/
def step (s : State) : Host.Outcome State Fault Refusal :=
  if s.cfg.ccmap.wellFormed = false then .refused .badCcmap
  else
    match s.refused with
    | some why => .fault (.halted why)
    | none =>
      match s.pending with
      | [] => .next s
      | r :: rest =>
        match decodeRecord r with
        | .error _ => .refused .bufferShape
        | .ok i => exec i (s.setPending rest)

/-- The host record that carries one opcode-table word: a host op with every operand zero, or a RENDER
of no samples and no output channels whose event list is the word at offset 0 (R216, log 4). -/
def recordOfTableWord (nbits w : Nat) : HostRecord :=
  if nbits ≤ 8 then recordOfOp w
  else { op := 0x03, events := [(BitVec.ofNat 24 w, 0)] }

/-- The state whose next command is the given opcode-table word: it stands for the host issuing that
command (log 2). Nothing else changes. -/
def State.withFetchWord (s : State) (nbits w : Nat) : State :=
  s.setPending (recordOfTableWord nbits w :: s.pending)

end Sys2Proof.Machine
end

