-- ==== Sys2Proof/Machine/Pseudo.lean ====
section
/-! DEFINITION. The spec's own event and program notation (spec/30_encoding.md R114) and the
pseudo-instructions and their expansions (R115), as data: which words and records a line stands for. -/

namespace Sys2Proof.Machine

open Sys2Proof

/-- A basic event line (R114), operands as the numbers the line gives. -/
inductive EventLine where
  | noteOff (c key vel : Nat)
  | noteOn (c key vel : Nat)
  | cc (c k v : Nat)
  | prog (c v : Nat)
  | bend (c lsb msb : Nat)
  deriving DecidableEq, Repr

/-- The event word of a line, by the sums of R114. -/
def EventLine.word : EventLine → EventWord
  | .noteOff c key vel => BitVec.ofNat 24 (0x800000 + c * 0x10000 + key * 0x100 + vel)
  | .noteOn c key vel => BitVec.ofNat 24 (0x900000 + c * 0x10000 + key * 0x100 + vel)
  | .cc c k v => BitVec.ofNat 24 (0xB00000 + c * 0x10000 + k * 0x100 + v)
  | .prog c v => BitVec.ofNat 24 (0xC00000 + c * 0x10000 + v * 0x100)
  | .bend c lsb msb => BitVec.ofNat 24 (0xE00000 + c * 0x10000 + lsb * 0x100 + msb)

/-- A pseudo-instruction (R115). -/
inductive Pseudo where
  | mix (c bits : Nat)
  | vol (c v : Nat)
  | pan (c v : Nat)
  | eph (c v : Nat)
  | epm (c v : Nat)
  | epl (c v : Nat)
  | eperiod (c p : Nat)
  | eshape (c s : Nat)
  | dcreset (c : Nat)
  | swn (c v : Nat)
  | swt (c p v : Nat)
  | swr (c p v : Nat)
  | bend14 (c x : Nat)
  deriving DecidableEq, Repr

/-- The basic events a pseudo-instruction expands to, in order, with the numbers of the CCMAP m (R115). -/
def Pseudo.expand (m : CCMap) : Pseudo → List EventLine
  | .mix c bits => [.cc c m.bank bits]
  | .vol c v => [.cc c m.volume v]
  | .pan c v => [.cc c m.pan v]
  | .eph c v => [.cc c m.eperH v]
  | .epm c v => [.cc c m.eperM v]
  | .epl c v => [.cc c m.eperL v]
  | .eperiod c p =>
    [.cc c m.eperH (p / 2 ^ 14 % 128), .cc c m.eperM (p / 2 ^ 7 % 128), .cc c m.eperL (p % 128)]
  | .eshape c s => [.cc c m.eshape s]
  | .dcreset c => [.cc c m.dcReset 0]
  | .swn c v => [.cc c m.swenvBase v]
  | .swt c p v => [.cc c (m.swenvBase + 1 + 2 * p) v]
  | .swr c p v => [.cc c (m.swenvBase + 2 + 2 * p) v]
  | .bend14 c x => [.bend c (x % 128) (x / 2 ^ 7 % 128)]

/-- The value of a PARAM line (R114): a decimal int32, f32 bits, or a real to be converted. -/
inductive ParamValue where
  | int (i : Int)
  | bits (w : Word32)
  | real (q : Rat)
  deriving DecidableEq, Repr

/-- The 32-bit word of a PARAM value (R114, R110). -/
def ParamValue.word : ParamValue → Word32
  | .int i => BitVec.ofInt 32 i
  | .bits w => w
  | .real q => toF32 q

/-- A host command line (R114). -/
inductive HostLine where
  | configure (sr : Nat)
  | deconfigure
  | render (n numOut : Nat) (events : List (EventLine × Nat)) (prior : Buffer)
  | param (id : Nat) (value : ParamValue)
  | saveFull
  | saveLegacy
  | load (bytes : List Byte)
  deriving DecidableEq, Repr

/-- The record a host command line stands for (R110, R114). -/
def HostLine.record : HostLine → HostRecord
  | .configure sr => { op := 0x01, sampleRate := sr }
  | .deconfigure => { op := 0x02 }
  | .render n numOut events prior =>
    { op := 0x03, blockLen := n, numOut := numOut, prior := prior,
      events := events.map (fun ev => (EventLine.word ev.1, ev.2)) }
  | .param id value => { op := 0x04, paramId := BitVec.ofNat 8 id, value := ParamValue.word value }
  | .saveFull => { op := 0x05, layout := 0 }
  | .saveLegacy => { op := 0x05, layout := 1 }
  | .load bytes => { op := 0x06, blob := bytes }

end Sys2Proof.Machine
end

