-- ==== Sys2Proof/Safety.lean ====
section
/-! DEFINITION. The terms in which claims speak of runs: what is observed (spec/00_scope.md R13), which
engine commands are in range (spec/30_encoding.md R109), the invariant of a block, and what a
refusal-free RENDER needs. -/

namespace Sys2Proof

/-! ## Engine command ranges (R109) -/

/-- The argument ranges of the table of R109. -/
def EngineCmd.inRange : EngineCmd → Prop
  | .configure a0 clockRate sampleRate =>
    a0 = Config.engineArg0 ∧ 1 ≤ clockRate ∧ clockRate ≤ 2 ^ 31 - 1 ∧ 0 < sampleRate
  | .setTone _ _ => True
  | .setNoise p => p ≤ 31
  | .setMixer _ _ _ _ => True
  | .setVolume _ v => v ≤ 14
  | .setPan _ p flags => 0 ≤ p ∧ p ≤ 1 ∧ flags = Config.panFlags
  | .setEnvelope p => p ≤ 65535
  | .setEnvelopeShape s => s ≤ 15
  | .removeDc => True
  | .process => True

/-- Whether a command is a set_volume. -/
def EngineCmd.isSetVolume : EngineCmd → Bool
  | .setVolume _ _ => true
  | .configure _ _ _ | .setTone _ _ | .setNoise _ | .setMixer _ _ _ _ | .setPan _ _ _
  | .setEnvelope _ | .setEnvelopeShape _ | .removeDc | .process => false

end Sys2Proof

namespace Sys2Proof.Machine

open Sys2Proof

/-! ## Observation (R13) -/

/-- The persisted state (G, ch[0..2]) (R30). -/
def State.persisted (s : State) : Persisted := { g := s.g, ch := s.ch }

/-- The whole stored state of R30, without the model's own fields. -/
structure Stored where
  g : Global
  ch : PerCh Channel
  rt : PerCh Runtime
  e : EngineRt
  x : Fragments
  v : Validity
  refused : Option Reason
  deriving DecidableEq, Repr

/-- The tuple S of R30. -/
def State.stored (s : State) : Stored :=
  { g := s.g, ch := s.ch, rt := s.rt, e := s.e, x := s.x, v := s.v, refused := s.refused }

/-- What a run shows (R13): the engine commands, what the host received, and the stored state. -/
structure Observation where
  trace : List EngineCmd
  replies : List Reply
  stored : Stored
  deriving DecidableEq, Repr

/-- The observation of a state. -/
def State.observe (s : State) : Observation :=
  { trace := s.trace, replies := s.replies, stored := s.stored }

/-- The trace after emitting the commands cmds, in order, from the state s (R11): nothing is added while
the block is inactive. -/
def State.emitted (s : State) (cmds : List EngineCmd) : List EngineCmd :=
  if s.e.active then s.trace ++ cmds else s.trace

/-! ## The invariant of a block -/

/-- What holds of every state a run reaches: engine commands in range (R109), a positive sample rate and
clock and a validity other than Uninitialized while active (R31, R44, R231), cached volumes in 0..14
(R42), start times between 0 and the elapsed time (R209), and no elapsed time while inactive (R212,
R302). -/
structure State.Inv (s : State) : Prop where
  traceInRange : ∀ cmd ∈ s.trace, cmd.inRange
  activeRate : s.e.active = true → 0 < s.e.sampleRate
  activeClock : s.e.active = true → 0 < sext32 s.g.clockRate
  activeConfigured : s.e.active = true → s.v ≠ .uninitialized
  cacheLegal : ∀ c v, (s.rt.get c).volCache = some v → v ≤ 14
  startLegal : ∀ c, 0 ≤ (s.rt.get c).startTime ∧ (s.rt.get c).startTime ≤ s.e.elapsed
  inactiveTime : s.e.active = false → s.e.elapsed = 0

/-! ## Names that statements share -/

/-- The six CC_SWENV_TIME instructions, by breakpoint. -/
def swenvTime (k : PtIdx) (c : Chan) (v : BitVec 7) : Instr :=
  match k with
  | .pt0 => .ccSwenvTime0 c v
  | .pt1 => .ccSwenvTime1 c v
  | .pt2 => .ccSwenvTime2 c v
  | .pt3 => .ccSwenvTime3 c v
  | .pt4 => .ccSwenvTime4 c v
  | .pt5 => .ccSwenvTime5 c v

/-- The six CC_SWENV_RATIO instructions, by breakpoint. -/
def swenvRatio (k : PtIdx) (c : Chan) (v : BitVec 7) : Instr :=
  match k with
  | .pt0 => .ccSwenvRatio0 c v
  | .pt1 => .ccSwenvRatio1 c v
  | .pt2 => .ccSwenvRatio2 c v
  | .pt3 => .ccSwenvRatio3 c v
  | .pt4 => .ccSwenvRatio4 c v
  | .pt5 => .ccSwenvRatio5 c v

/-- A channel with the time half of breakpoint k replaced (R179). -/
def withTime (ch : Channel) (k : PtIdx) (w : F32) : Channel :=
  { ch with pts := ch.pts.set k { ch.pts.get k with time := w } }

/-- A channel with the ratio half of breakpoint k replaced (R180). -/
def withRatio (ch : Channel) (k : PtIdx) (w : F32) : Channel :=
  { ch with pts := ch.pts.set k { ch.pts.get k with ratio := w } }

/-- An int32 word clamped to 0..hi (R161). -/
def clampedWord (hi : Nat) (w : Word32) : Nat := (max 0 (min (hi : Int) w.toInt)).toNat

/-- The set_mixer command of a stored mixer word: the enables are bits 0, 1 and 2 (R35, R161). -/
def mixerCmd (c : Chan) (m : Word32) : EngineCmd :=
  .setMixer c (m.getLsbD 0) (m.getLsbD 1) (m.getLsbD 2)

/-- The set_pan command of a finite stored pan (R161). -/
def panCmd (c : Chan) (pan : F32) : EngineCmd :=
  .setPan c (max 0 (min 1 (F32.finiteVal pan))) Config.panFlags

/-- The engine commands that restore one channel at CONFIGURE (R232). -/
def restoreCmds (p : Persisted) (c : Chan) : List EngineCmd :=
  [.setMixer c false false false, .setVolume c (clampedWord 14 (p.ch.get c).volume),
   panCmd c (p.ch.get c).pan]

/-- The persisted state that a CONFIGURE works on: the defaults if V is Uninitialized (R231). -/
def configured (s : State) : Persisted :=
  if s.v = .uninitialized then s.cfg.defaults else s.persisted

/-- The offsets of an event list never decrease (R201). -/
def OffsetsRise (events : List TimedEvent) : Prop :=
  ∀ (j : Nat) (a b : TimedEvent), events[j]? = some a → events[j + 1]? = some b → a.2 ≤ b.2

/-- No word of an event list decodes to REFUSED(DATA_BIT7) (R201). -/
def NoBadData (m : CCMap) (events : List TimedEvent) : Prop :=
  ∀ ev ∈ events, (decodeEvent m ev.1).isDataBit7 = false

/-- The offset of the last event of a list; 0, where a block starts, if there is none (R52). -/
def lastOffset (events : List TimedEvent) : Nat := (events.getLast?.map (fun ev => ev.2)).getD 0

/-- The state after applying the words of an event list in order, with no sample rendered (R203). -/
def applyAll (events : List TimedEvent) (s : State) : State :=
  events.foldl (fun u ev => applyWord ev.1 u) s

/-! ## Runs -/

/-- The states that runs of an instance with configuration cfg reach: from its creation, with any
commands issued, step by step. Issuing a command appends it to the list of pending commands. -/
inductive Reachable (cfg : Config) : State → Prop where
  | created : Reachable cfg (State.powerUp cfg)
  | issued {s : State} (r : HostRecord) :
      Reachable cfg s → Reachable cfg (s.setPending (s.pending ++ [r]))
  | stepped {s t : State} : Reachable cfg s → step s = .next t → Reachable cfg t

/-! ## What a refusal-free RENDER needs -/

/-- Every stored breakpoint field of every channel is finite, so that no evaluation can be refused
NONFINITE (R149). -/
def State.formsFinite (s : State) : Prop :=
  ∀ c k, F32.isFinite ((s.ch.get c).pts.get k).time = true ∧
    F32.isFinite ((s.ch.get c).pts.get k).ratio = true

/-- A safe run ends in a state without the refusal mark. -/
def State.Safe (s : State) : Prop := s.refused = none

end Sys2Proof.Machine
end

