-- ==== Sys2Proof/Certificates/Slice0/Obligations.lean ====
section
/-! DEFINITION. The statements for the provers. Each docstring names the rules of spec/ it formalises. -/

open Sys2Proof Sys2Proof.Machine

/-! ## Encoding -/

/-- R100 to R106, R110: for every well-formed CCMAP and every well-formed instruction, decoding its
encoding gives it back, with every operand. -/
def Obligations.DecodeOfEncode : Prop :=
  ∀ (m : CCMap) (i : Instr), m.wellFormed = true → i.wf m = true → decode m (encode m i) = .ok i

/-- R113: every 24-bit word is the encoding of what it decodes to, so no bit of a word is lost. -/
def Obligations.EncodeOfDecodedEvent : Prop :=
  ∀ (m : CCMap) (w : EventWord), encode m (decodeEvent m w) = .event w

/-- R113: every word decodes to a well-formed event outcome, never to a host command. -/
def Obligations.DecodedEventsAreWellFormed : Prop :=
  ∀ (m : CCMap) (w : EventWord),
    (decodeEvent m w).isEvent = true ∧ (decodeEvent m w).wf m = true

/-- R104: the decode order. An unknown type is ignored; else a channel of 3 or more is ignored; else a
data byte in use with bit 7 set refuses; else type 0x9 with d2 = 0 is NOTEON_V0; else the type decides,
0xB by the controller number. -/
def Obligations.EventWordDecodeOrder : Prop :=
  ∀ (m : CCMap) (w : EventWord) (s : State),
    let type := (w.extractLsb' 20 4).toNat
    let chan := (w.extractLsb' 16 4).toNat
    let d1 := w.extractLsb' 8 7
    let d2 := w.extractLsb' 0 7
    let bad : Prop := w.getLsbD 15 = true ∨ (type ≠ 0xC ∧ w.getLsbD 7 = true)
    (type ∉ [0x8, 0x9, 0xB, 0xC, 0xE] → exec (decodeEvent m w) s = .next s) ∧
    (type ∈ [0x8, 0x9, 0xB, 0xC, 0xE] → 3 ≤ chan → exec (decodeEvent m w) s = .next s) ∧
    (∀ c : Chan, type ∈ [0x8, 0x9, 0xB, 0xC, 0xE] → chan = c.num →
      (bad → (decodeEvent m w).isDataBit7 = true) ∧
      (¬ bad →
        (type = 0x9 → d2 = 0 → decodeEvent m w = .noteOnV0 c d1) ∧
        (type = 0x9 → d2 ≠ 0 → decodeEvent m w = .noteOn c d1 d2) ∧
        (type = 0x8 → decodeEvent m w = .noteOff c d1 d2) ∧
        (type = 0xB → decodeEvent m w = decodeController m c d1 d2) ∧
        (type = 0xC → decodeEvent m w = .programChange c d1 (w.extractLsb' 0 8)) ∧
        (type = 0xE → decodeEvent m w = .pitchBend c d1 d2)))

/-- R105, R106: a ControlChange selects its function by the controller number, for every well-formed
CCMAP; the software-envelope range is 13 consecutive numbers; any other number is ignored. -/
def Obligations.ControllerNumbersSelectFunctions : Prop :=
  ∀ (m : CCMap) (c : Chan) (k v : BitVec 7), m.wellFormed = true →
    (k.toNat = m.bank → decodeController m c k v = .ccBank c v) ∧
    (k.toNat = m.pan → decodeController m c k v = .ccPan c v) ∧
    (k.toNat = m.volume → decodeController m c k v = .ccVolume c v) ∧
    (k.toNat = m.eperH → decodeController m c k v = .ccEperH c v) ∧
    (k.toNat = m.eperM → decodeController m c k v = .ccEperM c v) ∧
    (k.toNat = m.eperL → decodeController m c k v = .ccEperL c v) ∧
    (k.toNat = m.eshape → decodeController m c k v = .ccEshape c v) ∧
    (k.toNat = m.dcReset → decodeController m c k v = .ccDcReset c v) ∧
    (k.toNat = m.swenvBase → decodeController m c k v = .ccSwenvCount c v) ∧
    (∀ p : PtIdx, k.toNat = m.swenvBase + 1 + 2 * p.num →
      decodeController m c k v = swenvTime p c v) ∧
    (∀ p : PtIdx, k.toNat = m.swenvBase + 2 + 2 * p.num →
      decodeController m c k v = swenvRatio p c v) ∧
    (k.toNat ∉ m.singles → (k.toNat < m.swenvBase ∨ m.swenvBase + 12 < k.toNat) →
      ∀ s : State, exec (decodeController m c k v) s = .next s)

/-- R100, R104 to R106, R110: words of 95_test_vectors.md (2.1, 2.9, 2.15, V-HOST-22, W-4 and program P2)
and of the op table of R110, one or more per family, under the standard CCMAP. -/
def Obligations.SpecWordsDecode : Prop :=
  decodeTableWord 24 0xA03C40 = some (.ignoredTypeA 0x03C40) ∧
  decodeTableWord 24 0x933C40 = some (.ignoredCh3 .noteOn 0x3C40) ∧
  decodeTableWord 24 0x903CC0 = some (.refusedBit7D2T9 .ch0 60 64) ∧
  decodeTableWord 24 0x903C00 = some (.noteOnV0 .ch0 60) ∧
  decodeTableWord 24 0x91455A = some (.noteOn .ch1 69 90) ∧
  decodeTableWord 24 0xB0131E = some (.ccEshape .ch0 0x1E) ∧
  decodeTableWord 24 0xB26A7F = some (.ccSwenvRatio1 .ch2 127) ∧
  decodeTableWord 24 0xC16555 = some (.programChange .ch1 101 0x55) ∧
  decodeTableWord 24 0xE20100 = some (.pitchBend .ch2 1 0) ∧
  decodeTableWord 8 0x02 = some .deconfigure ∧
  decodeTableWord 8 0x07 = some (.badOp 0x07)

/-- R114: the sums that give the event words of the text notation are the encodings of the events. -/
def Obligations.EventLinesAreEncodings : Prop :=
  ∀ (m : CCMap) (c : Chan) (a b : BitVec 7),
    encode m (.noteOff c a b) = .event (EventLine.noteOff c.num a.toNat b.toNat).word ∧
    (b ≠ 0 → encode m (.noteOn c a b) = .event (EventLine.noteOn c.num a.toNat b.toNat).word) ∧
    encode m (.noteOnV0 c a) = .event (EventLine.noteOn c.num a.toNat 0).word ∧
    encode m (.ccOther c a b) = .event (EventLine.cc c.num a.toNat b.toNat).word ∧
    encode m (.programChange c a 0) = .event (EventLine.prog c.num a.toNat).word ∧
    encode m (.pitchBend c a b) = .event (EventLine.bend c.num a.toNat b.toNat).word

/-! ## Steps, configuration, reset -/

/-- R2, R82, R230: when the first command issued decodes to i, the step takes it off the list and is exec
of i, to completion. The list of issued commands is the model's choice (log 2). -/
def Obligations.StepRunsDecodedCommand : Prop :=
  ∀ (s : State) (r : HostRecord) (rest : List HostRecord) (i : Instr),
    s.cfg.ccmap.wellFormed = true → s.refused = none → s.pending = r :: rest →
    decodeRecord r = .ok i → step s = exec i { s with pending := rest }

/-- R200 to R216: a step on a RENDER of no samples whose list is one event word runs exec of the
decoded event, and hands back the empty buffer; a word refused with DATA_BIT7 refuses the RENDER. This
is how an event word reaches a step, the model's choice (log 4). -/
def Obligations.StepRunsDecodedEvent : Prop :=
  ∀ (s : State) (w : Nat) (i : Instr),
    s.cfg.ccmap.wellFormed = true → s.refused = none →
    decodeEvent s.cfg.ccmap (BitVec.ofNat 24 w) = i →
    (i.isDataBit7 = false →
      ∃ t, exec i s = .next t ∧
        step (s.withFetchWord 24 w) = .next { t with replies := t.replies ++ [.buffer []] }) ∧
    (i.isDataBit7 = true →
      exec i s = .next { s with refused := some .dataBit7 } ∧
      step (s.withFetchWord 24 w) = .next { s with refused := some .dataBit7 })

/-- R230, R273: a state whose refusal mark is set has no next state. That the step answers a stop there is
the model's form of the spec's "stuck" (log 1). -/
def Obligations.NoStepFromRefusedState : Prop :=
  ∀ (s t : State), s.refused ≠ none → step s ≠ .next t

/-- R7: when a CCMAP is well formed, and that a configuration whose CCMAP is not is refused. -/
def Obligations.IllFormedCcmapIsRefused : Prop :=
  (∀ m : CCMap, m.wellFormed = true ↔
    (([m.bank, m.volume, m.pan, m.eperH, m.eperM, m.eperL, m.eshape, m.dcReset].Nodup) ∧
     (∀ k ∈ [m.bank, m.volume, m.pan, m.eperH, m.eperM, m.eperL, m.eshape, m.dcReset],
       k ≤ 127 ∧ ¬ (m.swenvBase ≤ k ∧ k ≤ m.swenvBase + 12)) ∧
     m.swenvBase + 12 ≤ 127)) ∧
  (∀ s : State, s.cfg.ccmap.wellFormed = false → step s = .refused .badCcmap)

/-- R300, R301: the state at instance creation, for every configuration, and the values of DEFAULTS. The
model's own fields trace, pending, replies and answerIndex are not spoken of (log 9). -/
def Obligations.PowerUpState : Prop :=
  (∀ cfg : Config,
    (State.powerUp cfg).g = cfg.defaults.g ∧ (State.powerUp cfg).ch = cfg.defaults.ch ∧
    (∀ c, ((State.powerUp cfg).rt.get c).noteOn = false ∧
      ((State.powerUp cfg).rt.get c).startTime = 0 ∧
      ((State.powerUp cfg).rt.get c).volCache = none ∧
      (State.powerUp cfg).e.pitchBend.get c = 8192) ∧
    (State.powerUp cfg).e.sampleRate = 0 ∧ (State.powerUp cfg).e.active = false ∧
    (State.powerUp cfg).e.elapsed = 0 ∧
    (State.powerUp cfg).x = { h := 0, m := 0, l := 0 } ∧
    (State.powerUp cfg).v = .uninitialized ∧ (State.powerUp cfg).refused = none) ∧
  State.reset = State.powerUp Config.standard ∧
  State.reset.g = { clockRate := 2000000, envPeriod := 0, envShape := 0, noisePeriod := 0 } ∧
  (∀ c, (State.reset.ch.get c).mixer = 1 ∧ (State.reset.ch.get c).volume = 14 ∧
    (State.reset.ch.get c).pan = 0x3F000000 ∧ (State.reset.ch.get c).numPoints = 0 ∧
    ∀ k, (State.reset.ch.get c).pts.get k = { time := 0, ratio := 0 })

/-- The invariant holds at the creation of an instance, with every configuration. -/
def Obligations.InvariantAtPowerUp : Prop :=
  (∀ cfg : Config, (State.powerUp cfg).Inv) ∧ State.reset.Inv

/-- R31, R42, R44, R109, R209, R212: every step keeps the invariant, from every state that has it. -/
def Obligations.StepKeepsInvariant : Prop :=
  ∀ (s t : State), s.Inv → step s = .next t → t.Inv

/-- R109: every engine command that any run of any instance ever emits has its arguments in the ranges of
the table, whatever the host issues. That issuing a command appends it to a list of pending ones (log 2)
and that a run starts with nothing emitted (log 9) are the model's choices. -/
def Obligations.EveryEmittedCommandInRange : Prop :=
  ∀ (cfg : Config) (s : State), Reachable cfg s → ∀ cmd ∈ s.trace, cmd.inRange

/-- R6, R70, R83, R112: a step never changes the configuration, and the engine command port is append
only. That what the host receives is a list of replies, append only too, is the model's choice (log 12). -/
def Obligations.TraceOnlyGrows : Prop :=
  ∀ (s t : State), step s = .next t →
    t.cfg = s.cfg ∧ s.trace <+: t.trace ∧ s.replies <+: t.replies

/-- R11, R277: while the block is inactive nothing is emitted: a command that starts and ends with
E.active = false leaves the trace as it was. -/
def Obligations.InactiveBlockEmitsNothing : Prop :=
  ∀ (i : Instr) (s t : State), s.e.active = false → exec i s = .next t → t.e.active = false →
    t.trace = s.trace

/-! ## Events: results and frames -/

/-- R102, R111, R181: the seven ignored rows and an unmapped controller change nothing. -/
def Obligations.IgnoredWordsChangeNothing : Prop :=
  ∀ (s : State) (b23 : BitVec 23) (b20 : BitVec 20) (b16 : BitVec 16) (t : EventType)
    (l2 : BitVec 2) (l3 : BitVec 3) (c : Chan) (k v : BitVec 7),
    exec (.ignoredType07 b23) s = .next s ∧ exec (.ignoredTypeA b20) s = .next s ∧
    exec (.ignoredTypeD b20) s = .next s ∧ exec (.ignoredTypeF b20) s = .next s ∧
    exec (.ignoredCh3 t b16) s = .next s ∧ exec (.ignoredCh47 t l2 b16) s = .next s ∧
    exec (.ignoredCh815 t l3 b16) s = .next s ∧ exec (.ccOther c k v) s = .next s

/-- R103, R110, R272, R273: each DATA_BIT7 row, and BAD_OP, sets the mark to its reason and changes
nothing else; every op outside 1..6 decodes to BAD_OP. That a refused command is a next state with the mark
set is the model's form (log 1), and so is giving a refused word a state of its own (log 4). -/
def Obligations.RefusedInputsSetTheMarkOnly : Prop :=
  ∀ (s : State) (t : EventType) (c : Chan) (d1 d2 : BitVec 7) (low op : BitVec 8),
    exec (.refusedBit7D1 t c d1 low) s = .next { s with refused := some .dataBit7 } ∧
    exec (.refusedBit7D2T8 c d1 d2) s = .next { s with refused := some .dataBit7 } ∧
    exec (.refusedBit7D2T9 c d1 d2) s = .next { s with refused := some .dataBit7 } ∧
    exec (.refusedBit7D2TB c d1 d2) s = .next { s with refused := some .dataBit7 } ∧
    exec (.refusedBit7D2TE c d1 d2) s = .next { s with refused := some .dataBit7 } ∧
    exec (.badOp op) s = .next { s with refused := some .badOp } ∧
    ((op.toNat = 0 ∨ 6 < op.toNat) → ∀ r : HostRecord, r.op = op → decodeRecord r = .ok (.badOp op))

/-- R162, R164: NOTEOFF and NOTEON_V0 do nothing on a released channel; on a sounding one they emit
set_mixer(c, F, F, F) and the optional shape, and clear note_on; nothing else changes. -/
def Obligations.NoteOffReleasesChannel : Prop :=
  ∀ (s : State) (c : Chan) (key vel : BitVec 7),
    let released : State :=
      if (s.rt.get c).noteOn = false then s
      else { s with
        rt := s.rt.set c { s.rt.get c with noteOn := false }
        trace := s.emitted (.setMixer c false false false ::
          (match s.cfg.noteOffPerturb with
            | none => []
            | some shape => [.setEnvelopeShape shape.toNat])) }
    exec (.noteOff c key vel) s = .next released ∧ exec (.noteOnV0 c key) s = .next released

/-- R163: NOTEON does nothing on a sounding channel; on a released one it emits the stored mixer, the
clamped shape and the tone period, captures the elapsed time and sets note_on; the velocity has no
effect and nothing else changes. -/
def Obligations.NoteOnStartsChannel : Prop :=
  ∀ (s : State) (c : Chan) (key vel : BitVec 7),
    exec (.noteOn c key vel) s = .next
      (if (s.rt.get c).noteOn = true then s
       else { s with
        rt := s.rt.set c { s.rt.get c with noteOn := true, startTime := s.e.elapsed }
        trace := s.emitted
          [mixerCmd c (s.ch.get c).mixer, .setEnvelopeShape (clampedWord 15 s.g.envShape),
           .setTone c (tonePeriod s.g.clockRate.toInt key)] })

/-- R165: the tone period is clock / (16 · 440 · 1.059463^(key − 57)), truncated, exact in Q; for
clock 2000000 it is 7644 at key 0 and 4 at key 127. -/
def Obligations.TonePeriodFormula : Prop :=
  ∀ (clock : Int) (key : BitVec 7), 1 ≤ clock →
    ((tonePeriod clock key : Nat) : Int) =
      ⌊(clock : ℚ) / (16 * (440 * (1059463 / 1000000 : ℚ) ^ ((key.toNat : Int) - 57)))⌋ ∧
    tonePeriod 2000000 0 = 7644 ∧ tonePeriod 2000000 127 = 4

/-- R166, R310: PROGRAM_CHANGE stores pv[4:0] as the noise period and pv[7:5], with pv[7] = 0, as the
mixer, emits set_noise then set_mixer, ignores w[7:0], and changes nothing else. -/
def Obligations.ProgramChangeStoresNoiseAndMixer : Prop :=
  ∀ (s : State) (c : Chan) (pv : BitVec 7) (low : BitVec 8),
    exec (.programChange c pv low) s = .next { s with
      g := { s.g with noisePeriod := BitVec.ofNat 32 (pv.toNat % 32) }
      ch := s.ch.set c { s.ch.get c with mixer := BitVec.ofNat 32 (pv.toNat / 32) }
      trace := s.emitted [.setNoise (pv.toNat % 32),
        .setMixer c (pv.getLsbD 5) (pv.getLsbD 6) false] }

/-- R167: CC_BANK stores v[2:0] as the mixer and emits it, whatever the note state. -/
def Obligations.BankSelectWritesMixer : Prop :=
  ∀ (s : State) (c : Chan) (v : BitVec 7),
    exec (.ccBank c v) s = .next { s with
      ch := s.ch.set c { s.ch.get c with mixer := BitVec.ofNat 32 (v.toNat % 8) }
      trace := s.emitted [.setMixer c (v.getLsbD 0) (v.getLsbD 1) (v.getLsbD 2)] }

/-- R168: CC_PAN stores toF32(v / 128) and emits v / 128; the stored value is exactly v / 128. -/
def Obligations.PanControllerStoresExactPan : Prop :=
  ∀ (s : State) (c : Chan) (v : BitVec 7),
    exec (.ccPan c v) s = .next { s with
      ch := s.ch.set c { s.ch.get c with pan := toF32 ((v.toNat : ℚ) / 128) }
      trace := s.emitted [.setPan c ((v.toNat : ℚ) / 128) Config.panFlags] } ∧
    F32.val (toF32 ((v.toNat : ℚ) / 128)) = some ((v.toNat : ℚ) / 128)

/-- R169: CC_VOLUME stores and emits floor(min(v, 119) / 8); the volume cache is not written. -/
def Obligations.VolumeControllerStoresVolume : Prop :=
  ∀ (s : State) (c : Chan) (v : BitVec 7),
    exec (.ccVolume c v) s = .next { s with
      ch := s.ch.set c { s.ch.get c with volume := BitVec.ofNat 32 (min v.toNat 119 / 8) }
      trace := s.emitted [.setVolume c (min v.toNat 119 / 8)] }

/-- R170 to R173: each fragment controller stores its fragment, re-derives the register
H·2^14 + M·2^7 + L from the three cached fragments, and stores and emits it saturated to 65535. -/
def Obligations.FragmentControllersComposePeriod : Prop :=
  ∀ (s : State) (c : Chan) (v : BitVec 7),
    let composed : Fragments → State := fun x =>
      let p := min (x.h.toNat * 2 ^ 14 + x.m.toNat * 2 ^ 7 + x.l.toNat) 65535
      { s with
        x := x
        g := { s.g with envPeriod := BitVec.ofNat 32 p }
        trace := s.emitted [.setEnvelope p] }
    exec (.ccEperH c v) s = .next (composed { s.x with h := v }) ∧
    exec (.ccEperM c v) s = .next (composed { s.x with m := v }) ∧
    exec (.ccEperL c v) s = .next (composed { s.x with l := v })

/-- R115, R170: the three words of EPERIOD p, applied from any state, leave the fragments of p and the
period min(p, 65535). -/
def Obligations.EperiodSetsThePeriod : Prop :=
  ∀ (s : State) (c : Chan) (p : Nat) (lines : List EventLine),
    s.cfg.ccmap.wellFormed = true → p < 2 ^ 21 →
    Pseudo.expand s.cfg.ccmap (.eperiod c.num p) = lines →
    let t := applyAll (lines.map (fun l => (l.word, 0))) s
    t.x = { h := BitVec.ofNat 7 (p / 2 ^ 14), m := BitVec.ofNat 7 (p / 2 ^ 7), l := BitVec.ofNat 7 p } ∧
    t.g = { s.g with envPeriod := BitVec.ofNat 32 (min p 65535) } ∧
    (s.e.active = true → t.trace.getLast? = some (.setEnvelope (min p 65535)))

/-- R174, R175: CC_ESHAPE stores and emits v[3:0]; CC_DCRESET emits remove_dc() and stores nothing. -/
def Obligations.ShapeAndDcControllers : Prop :=
  ∀ (s : State) (c : Chan) (v : BitVec 7),
    exec (.ccEshape c v) s = .next { s with
      g := { s.g with envShape := BitVec.ofNat 32 (v.toNat % 16) }
      trace := s.emitted [.setEnvelopeShape (v.toNat % 16)] } ∧
    exec (.ccDcReset c v) s = .next { s with trace := s.emitted [.removeDc] }

/-- R178 to R180: the software-envelope controllers store min(v, 6), the decoded time or the decoded
ratio, in the breakpoint form only; nothing is emitted, and the other half of a pair is unchanged. -/
def Obligations.SwenvControllersStoreForm : Prop :=
  ∀ (s : State) (c : Chan) (v : BitVec 7),
    exec (.ccSwenvCount c v) s = .next { s with
      ch := s.ch.set c { s.ch.get c with numPoints := BitVec.ofNat 32 (min v.toNat 6) } } ∧
    (∀ k : PtIdx, exec (swenvTime k c v) s = .next { s with
      ch := s.ch.set c (withTime (s.ch.get c) k (toF32 ((v.toNat : ℚ) ^ 2 / 1000))) }) ∧
    (∀ k : PtIdx, exec (swenvRatio k c v) s = .next { s with
      ch := s.ch.set c (withRatio (s.ch.get c) k (if v.toNat ≤ 64 then toF32 ((v.toNat : ℚ) / 128)
        else toF32 ((v.toNat : ℚ) / 127))) })

/-- R182: PITCH_BEND stores (msb << 7) | lsb and does nothing else. -/
def Obligations.PitchBendIsStoredOnly : Prop :=
  ∀ (s : State) (c : Chan) (lsb msb : BitVec 7),
    exec (.pitchBend c lsb msb) s = .next { s with
      e := { s.e with pitchBend :=
        s.e.pitchBend.set c (BitVec.ofNat 14 (msb.toNat * 128 + lsb.toNat)) } }

/-- R51 (columns Ev), R160: no event that is not refused sets the mark, and events never write the clock
rate, the mode, the sample rate, the elapsed time, the volume caches or V. -/
def Obligations.EventsWriteOnlyTheirElements : Prop :=
  ∀ (i : Instr) (s : State), i.isEvent = true → i.isDataBit7 = false →
    ∃ t, exec i s = .next t ∧ t.refused = s.refused ∧ t.g.clockRate = s.g.clockRate ∧
      t.e.active = s.e.active ∧ t.e.sampleRate = s.e.sampleRate ∧ t.e.elapsed = s.e.elapsed ∧
      t.v = s.v ∧ (∀ c, (t.rt.get c).volCache = (s.rt.get c).volCache) ∧
      t.cfg = s.cfg ∧ t.pending = s.pending ∧ t.replies = s.replies

/-- R184: a ControlChange applied twice leaves the same stored state as applied once. -/
def Obligations.ControlChangeIsIdempotent : Prop :=
  ∀ (m : CCMap) (w : EventWord) (s t u : State), w.extractLsb' 20 4 = 0xB →
    exec (decodeEvent m w) s = .next t → exec (decodeEvent m w) t = .next u → u.stored = t.stored

/-! ## Numbers -/

/-- R9: toF32(q) is a finite f32 nearest to q, and at a tie between two values its significand is even,
for every q in the finite range. -/
def Obligations.ToF32IsNearest : Prop :=
  ∀ q : ℚ, |q| ≤ (2 ^ 24 - 1) * 2 ^ 104 →
    F32.isFinite (toF32 q) = true ∧
    ∀ y : F32, F32.isFinite y = true →
      |F32.finiteVal (toF32 q) - q| ≤ |F32.finiteVal y - q| ∧
      (|F32.finiteVal (toF32 q) - q| = |F32.finiteVal y - q| →
        F32.finiteVal y ≠ F32.finiteVal (toF32 q) → (toF32 q).getLsbD 0 = false)

/-- R10, R208: the effective volume is volume · r rounded half away from zero and clamped to 0..14; for
stored volumes 0..14 and ratios in [0, 1] the clamp changes nothing. -/
def Obligations.EffectiveVolumeRounds : Prop :=
  ∀ (vol : Word32) (r : ℚ),
    effVol vol r = (max 0 (min 14 (roundRat ((vol.toInt : ℚ) * r)))).toNat ∧
    (∀ q : ℚ, |(roundRat q : ℚ) - q| ≤ 1 / 2 ∧ (|(roundRat q : ℚ) - q| = 1 / 2 → |q| < |(roundRat q : ℚ)|)) ∧
    (0 ≤ vol.toInt → vol.toInt ≤ 14 → 0 ≤ r → r ≤ 1 →
      ((effVol vol r : Nat) : Int) = roundRat ((vol.toInt : ℚ) * r))

/-! ## The envelope evaluator -/

/-- R142, R144, R146: at e >= 0 the first breakpoint p with e < T is selected; the previous breakpoint, or
the origin, starts the segment, whose length is positive, and the result is the linear interpolation. -/
def Obligations.EnvelopeInterpolates : Prop :=
  ∀ (e ti ri : ℚ) (pre post : List Point) (p : Point), 0 ≤ e →
    (∀ q ∈ pre, ∃ t, F32.val q.time = some t ∧ t ≤ e) →
    F32.val p.time = some ti → F32.val p.ratio = some ri → e < ti →
    (pre = [] → ratio e (pre ++ p :: post) = .ok (e / ti * ri)) ∧
    (∀ (pre' : List Point) (q : Point) (ts rs : ℚ), pre = pre' ++ [q] →
      F32.val q.time = some ts → F32.val q.ratio = some rs →
      ts < ti ∧ ratio e (pre ++ p :: post) = .ok (rs + (e - ts) / (ti - ts) * (ri - rs)))

/-- R143, R151: beyond every breakpoint the last ratio is held; with a first time above 0 the curve is
pinned to 0 at e = 0. -/
def Obligations.EnvelopeHoldsAndIsPinned : Prop :=
  (∀ (e r : ℚ) (pre : List Point) (p : Point),
    (∀ q ∈ pre ++ [p], ∃ t, F32.val q.time = some t ∧ t ≤ e) →
    F32.val p.ratio = some r → ratio e (pre ++ [p]) = .ok r) ∧
  (∀ (p : Point) (post : List Point) (t r : ℚ), F32.val p.time = some t → 0 < t →
    F32.val p.ratio = some r → ratio 0 (p :: post) = .ok 0)

/-- R150: with finite fields and ratios in [0, 1] the result exists and lies in [0, 1]. -/
def Obligations.EnvelopeStaysInUnitRange : Prop :=
  ∀ (e : ℚ) (pts : List Point), 0 ≤ e → pts ≠ [] →
    (∀ p ∈ pts, F32.isFinite p.time = true ∧ F32.isFinite p.ratio = true ∧
      0 ≤ F32.finiteVal p.ratio ∧ F32.finiteVal p.ratio ≤ 1) →
    ∃ r, ratio e pts = .ok r ∧ 0 ≤ r ∧ r ≤ 1

/-- R141, R149: an empty form has no value; a time that is read and is not finite is refused NONFINITE,
and so is a ratio that is read: the selected one, the segment's start, or the one held. -/
def Obligations.EnvelopeRefusesNonFinite : Prop :=
  ∀ (e : ℚ) (pre post : List Point) (p : Point),
    ratio e [] = .error .emptyForm ∧
    ((∀ q ∈ pre, ∃ t, F32.val q.time = some t ∧ t ≤ e) →
      (F32.val p.time = none → ratio e (pre ++ p :: post) = .error .nonFinite) ∧
      (∀ t, F32.val p.time = some t → e < t → F32.val p.ratio = none →
        ratio e (pre ++ p :: post) = .error .nonFinite) ∧
      (∀ t (pre' : List Point) (q : Point), F32.val p.time = some t → e < t → pre = pre' ++ [q] →
        F32.val q.ratio = none → ratio e (pre ++ p :: post) = .error .nonFinite) ∧
      (∀ t, F32.val p.time = some t → t ≤ e → F32.val p.ratio = none →
        ratio e (pre ++ [p]) = .error .nonFinite))

/-! ## The renderer -/

/-- R160, R203: applying an event word inside a RENDER is exec of the instruction it decodes to. -/
def Obligations.AppliedWordIsExec : Prop :=
  ∀ (w : EventWord) (s : State), exec (decodeEvent s.cfg.ccmap w) s = .next (applyWord w s)

/-- R201, R276: decreasing offsets are refused OFFSET_ORDER, else a bad data byte DATA_BIT7, with no other
effect; otherwise the only refusal a RENDER can end in is NONFINITE. -/
def Obligations.RenderChecksItsList : Prop :=
  ∀ (n numOut : Nat) (events : List TimedEvent) (prior : Buffer) (s : State),
    (¬ OffsetsRise events →
      exec (.render n numOut events prior) s = .next { s with refused := some .offsetOrder }) ∧
    (OffsetsRise events → ¬ NoBadData s.cfg.ccmap events →
      exec (.render n numOut events prior) s = .next { s with refused := some .dataBit7 }) ∧
    (OffsetsRise events → NoBadData s.cfg.ccmap events →
      ∃ t, exec (.render n numOut events prior) s = .next t ∧
        (t.refused = s.refused ∨ t.refused = some .nonFinite))

/-- R200, R204, R212, R73: a RENDER whose list passes the check, in a state whose stored breakpoints are
all finite, completes: the mark is not set, the elapsed time advances by N / sample_rate while active,
the clock rate, sample rate, mode and V are unchanged, and a buffer of the prior one's shape goes back
to the host, in which every output channel from 2 on is untouched, and every channel when inactive. That
the buffer is appended to a list of replies is the model's choice (log 12). -/
def Obligations.RenderCompletes : Prop :=
  ∀ (n numOut : Nat) (events : List TimedEvent) (prior : Buffer) (s : State),
    OffsetsRise events → NoBadData s.cfg.ccmap events → s.formsFinite →
    ∃ t out, exec (.render n numOut events prior) s = .next t ∧
      t.refused = s.refused ∧ t.replies = s.replies ++ [.buffer out] ∧
      t.e.elapsed = (if s.e.active then s.e.elapsed + (n : ℚ) / (s.e.sampleRate : ℚ)
        else s.e.elapsed) ∧
      t.e.active = s.e.active ∧ t.e.sampleRate = s.e.sampleRate ∧ t.v = s.v ∧
      t.g.clockRate = s.g.clockRate ∧ t.pending = s.pending ∧
      out.map List.length = prior.map List.length ∧
      (∀ k, 2 ≤ k → out[k]? = prior[k]?) ∧ (numOut = 0 → out = prior) ∧
      (numOut = 1 → out[1]? = prior[1]?) ∧ (s.e.active = false → out = prior)

/-- R205, R215: with no events and no note-on channel a RENDER writes no slot and emits nothing; only the
elapsed time advances, while active. That the buffer is appended to a list of replies is the model's
choice (log 12). -/
def Obligations.SilentRenderTouchesNothing : Prop :=
  ∀ (n numOut : Nat) (prior : Buffer) (s : State), (∀ c, (s.rt.get c).noteOn = false) →
    exec (.render n numOut [] prior) s = .next { s with
      e := { s.e with elapsed :=
        if s.e.active then s.e.elapsed + (n : ℚ) / (s.e.sampleRate : ℚ) else s.e.elapsed }
      replies := s.replies ++ [.buffer prior] }

/-- R216, R217: a RENDER of no samples, or in an inactive block, applies every event of its list in order
and does nothing else: no slot is written, and inactive it emits nothing. That the buffer is appended to a
list of replies is the model's choice (log 12). -/
def Obligations.RenderWithoutSamplesAppliesEvents : Prop :=
  ∀ (n numOut : Nat) (events : List TimedEvent) (prior : Buffer) (s : State),
    OffsetsRise events → NoBadData s.cfg.ccmap events → (n = 0 ∨ s.e.active = false) →
    exec (.render n numOut events prior) s = .next { applyAll events s with
      replies := s.replies ++ [.buffer prior] } ∧
    (s.e.active = false → (applyAll events s).trace = s.trace)

/-- R205, R206: rendering a range is rendering any first part of it and then the rest, so a block may be
split at every event offset. R73: whether the range is rendered to its end or refused partway, every slot
of a sample outside it keeps what it held, and so does every slot if the range is skipped. -/
def Obligations.RenderRangeSplits : Prop :=
  ∀ (tBlk : ℚ) (numOut a b c : Nat) (r : Rendering), a ≤ b → b ≤ c →
    renderRange tBlk numOut a c r =
      (renderRange tBlk numOut a b r).andThen (renderRange tBlk numOut b c) ∧
    (∀ r' : Rendering,
      renderRange tBlk numOut a b r = .done r' ∨ (∃ why, renderRange tBlk numOut a b r = .raised why r') →
      ∀ k i, (i < a ∨ b ≤ i ∨ r.st.e.active = false ∨ ∀ d, (r.st.rt.get d).noteOn = false) →
        r'.out.slot k i = r.out.slot k i)

/-- R206, R210, R211, R216: a rendered sample emits zero to three set_volume commands, none off the
stride, then one process() and one remove_dc(), and copies the engine's answer to its slots. On the stride
the volumes are those of the recomputation at the sample time T_blk + i / sample_rate. R149, R273: a sample
is refused only by that recomputation, NONFINITE, with what it did kept and no slot written. The answer is
a free function of a counter and the trace, the model's choice (log 5). -/
def Obligations.SampleEmissions : Prop :=
  ∀ (tBlk : ℚ) (numOut i : Nat) (r r' : Rendering), r.st.e.active = true →
    (renderSample tBlk numOut i r = .done r' →
      (∃ vols : List EngineCmd, r'.st.trace = r.st.trace ++ vols ++ [.process, .removeDc] ∧
        vols.length ≤ 3 ∧ (∀ cmd ∈ vols, cmd.isSetVolume = true) ∧ (i % 25 ≠ 0 → vols = []) ∧
        (i % 25 = 0 → ∃ u, strideRecompute (tBlk + (i : ℚ) / (r.st.e.sampleRate : ℚ)) r.st = .done u ∧
          u.trace = r.st.trace ++ vols)) ∧
      r'.out = outputCopy numOut i (Config.engineAnswer r.st.answerIndex r'.st.trace).1
        (Config.engineAnswer r.st.answerIndex r'.st.trace).2 r.out ∧
      r'.st.answerIndex = r.st.answerIndex + 1) ∧
    (∀ why, renderSample tBlk numOut i r = .raised why r' →
      i % 25 = 0 ∧ why = .nonFinite ∧ r'.out = r.out ∧
      strideRecompute (tBlk + (i : ℚ) / (r.st.e.sampleRate : ℚ)) r.st = .raised .nonFinite r'.st)

/-- R207, R208, R209: the stride recomputation of a channel. Channels are visited in the order 0, 1, 2;
only a note-on channel with a non-empty form is; the effective volume is written to the engine and the
cache only if it differs from the cache. R149, R273: if the ratio has no value the recomputation raises
NONFINITE, with the effects of the channels before kept and none of this one. -/
def Obligations.StrideRecomputesVolumes : Prop :=
  ∀ (t r : ℚ) (c : Chan) (s : State),
    strideRecompute t s =
      (strideChannel t .ch0 s).andThen (fun s0 => (strideChannel t .ch1 s0).andThen
        (fun s1 => strideChannel t .ch2 s1)) ∧
    ((s.rt.get c).noteOn = false ∨ (s.ch.get c).numPoints.toInt ≤ 0 → strideChannel t c s = .done s) ∧
    ((s.rt.get c).noteOn = true → 0 < (s.ch.get c).numPoints.toInt →
      ratio (t - (s.rt.get c).startTime)
        ((s.ch.get c).pts.toList.take (clampedWord 6 (s.ch.get c).numPoints)) = .ok r →
      strideChannel t c s = .done
        (if (s.rt.get c).volCache = some (effVol (s.ch.get c).volume r) then s
         else { s with
          rt := s.rt.set c { s.rt.get c with volCache := some (effVol (s.ch.get c).volume r) }
          trace := s.emitted [.setVolume c (effVol (s.ch.get c).volume r)] })) ∧
    (∀ why, (s.rt.get c).noteOn = true → 0 < (s.ch.get c).numPoints.toInt →
      ratio (t - (s.rt.get c).startTime)
        ((s.ch.get c).pts.toList.take (clampedWord 6 (s.ch.get c).numPoints)) = .error why →
      why = .nonFinite ∧ strideChannel t c s = .raised .nonFinite s)

/-- R211: mono writes the sum to channel 0, two or more channels get left and right on channels 0 and 1,
and no other slot is written. -/
def Obligations.OutputMapping : Prop :=
  ∀ (numOut i : Nat) (l r : Sample) (out : Buffer) (k j : Nat) (slots : List Sample),
    out[k]? = some slots → j < slots.length →
    ((outputCopy numOut i l r out)[k]?).bind (fun x => x[j]?) =
      if j = i ∧ k = 0 ∧ numOut = 1 then some (Config.sampleSum l r)
      else if j = i ∧ k = 0 ∧ 2 ≤ numOut then some l
      else if j = i ∧ k = 1 ∧ 2 ≤ numOut then some r
      else slots[j]?

/-- R203, R204, R213, R214, R52: for every event of a RENDER that is not refused, with events before and
after it, in a state of any mode. The events before it are processed first, in list order, which leaves the
cursor at the last one's offset, or N. Then the samples from there up to min(off, N) are rendered, none if
the cursor is there already, and the event is applied to the state they leave. Then come the events after
it, from the cursor min(off, N), and the trailing range, which ends at N. So the process() commands between
two events are exactly those of the samples between their offsets, and none if that range is skipped. The
buffer handed back is the one these leave; the list it is appended to is the model's choice (log 12). -/
def Obligations.EventsAreSampleAccurate : Prop :=
  ∀ (n numOut off : Nat) (w : EventWord) (pre post : List TimedEvent) (prior : Buffer) (s t : State),
    exec (.render n numOut (pre ++ (w, off) :: post) prior) s = .next t → t.refused = none →
    ∃ (r1 r2 r3 r4 : Rendering) (seg tail : List EngineCmd),
      eventLoop s.e.elapsed n numOut pre { st := s, cursor := 0, out := prior } = .done r1 ∧
      r1.cursor = min (lastOffset pre) n ∧ r1.cursor ≤ min off n ∧
      renderRange s.e.elapsed numOut r1.cursor (min off n) r1 = .done r2 ∧
      (r1.cursor = min off n → r2 = r1) ∧
      r2.st.trace = r1.st.trace ++ seg ∧
      seg.count .process = (if s.e.active && r1.st.anyNoteOn then min off n - r1.cursor else 0) ∧
      exec (decodeEvent s.cfg.ccmap w) r2.st = .next (applyWord w r2.st) ∧
      eventLoop s.e.elapsed n numOut post
        { st := applyWord w r2.st, cursor := min off n, out := r2.out } = .done r3 ∧
      trailingRange s.e.elapsed n numOut r3 = .done r4 ∧ r4.cursor = n ∧
      r4.st.trace = r3.st.trace ++ tail ∧
      tail.count .process = (if s.e.active && r3.st.anyNoteOn then n - r3.cursor else 0) ∧
      t.trace = r4.st.trace ∧ t.rt = r4.st.rt ∧ t.g = r4.st.g ∧ t.ch = r4.st.ch ∧
      t.replies = s.replies ++ [.buffer r4.out]

/-- R13, R55: the block never reads the engine back: the stored state and the engine commands of a RENDER
do not depend on the engine's answers, the number of output channels or the prior buffer. The answers vary
with the counter that the model makes them a function of (log 5). -/
def Obligations.RenderIgnoresEngineAnswers : Prop :=
  ∀ (n numOut numOut' k : Nat) (events : List TimedEvent) (prior prior' : Buffer)
    (replies' : List Reply) (s t t' : State),
    exec (.render n numOut events prior) s = .next t →
    exec (.render n numOut' events prior') { s with answerIndex := k, replies := replies' } = .next t' →
    t.trace = t'.trace ∧ t.stored = t'.stored

/-! ## Host commands -/

/-- R231, R232, R302: a CONFIGURE of an inactive block with a positive rate, a positive clock and finite
pans completes: it installs the defaults if V was Uninitialized, resets the runtime, activates, and
emits the restore sequence. -/
def Obligations.ConfigureCompletes : Prop :=
  ∀ (sr : Nat) (s : State), s.e.active = false → 0 < sr →
    0 < (configured s).g.clockRate.toInt →
    (∀ c, F32.isFinite ((configured s).ch.get c).pan = true) →
    exec (.configure sr) s = .next { s with
      g := (configured s).g
      ch := (configured s).ch
      rt := { ch0 := { noteOn := false, startTime := 0, volCache := none },
              ch1 := { noteOn := false, startTime := 0, volCache := none },
              ch2 := { noteOn := false, startTime := 0, volCache := none } }
      e := { sampleRate := sr, active := true, elapsed := 0,
             pitchBend := { ch0 := 8192, ch1 := 8192, ch2 := 8192 } }
      x := { h := 0, m := 0, l := 0 }
      v := if s.v = .uninitialized then .defaulted else s.v
      trace := s.trace ++
        [.configure Config.engineArg0 (configured s).g.clockRate.toInt sr] ++
        restoreCmds (configured s) .ch0 ++ restoreCmds (configured s) .ch1 ++
        restoreCmds (configured s) .ch2 ++
        [.setNoise (clampedWord 31 (configured s).g.noisePeriod),
         .setEnvelope (clampedWord 65535 (configured s).g.envPeriod)] }

/-- R231, R273, R276: the refusals of CONFIGURE in their order: active, bad rate, bad clock, and then the
first pan that is not finite, with the defaults, the runtime reset, the activation and the restore commands
before it kept. That BAD_CLOCK keeps the defaults and the V it found installed is the model's inference
(log 13). -/
def Obligations.ConfigureRefusals : Prop :=
  ∀ (sr : Nat) (s : State),
    (s.e.active = true → exec (.configure sr) s = .next { s with refused := some .configActive }) ∧
    (s.e.active = false → sr = 0 →
      exec (.configure sr) s = .next { s with refused := some .badRate }) ∧
    (s.e.active = false → 0 < sr → (configured s).g.clockRate.toInt ≤ 0 →
      exec (.configure sr) s = .next { s with
        g := (configured s).g
        ch := (configured s).ch
        v := if s.v = .uninitialized then .defaulted else s.v
        refused := some .badClock }) ∧
    (∀ c : Chan, s.e.active = false → 0 < sr → 0 < (configured s).g.clockRate.toInt →
      F32.isFinite ((configured s).ch.get c).pan = false →
      (∀ d : Chan, d.num < c.num → F32.isFinite ((configured s).ch.get d).pan = true) →
      exec (.configure sr) s = .next { s with
        g := (configured s).g
        ch := (configured s).ch
        rt := { ch0 := { noteOn := false, startTime := 0, volCache := none },
                ch1 := { noteOn := false, startTime := 0, volCache := none },
                ch2 := { noteOn := false, startTime := 0, volCache := none } }
        e := { sampleRate := sr, active := true, elapsed := 0,
               pitchBend := { ch0 := 8192, ch1 := 8192, ch2 := 8192 } }
        x := { h := 0, m := 0, l := 0 }
        v := if s.v = .uninitialized then .defaulted else s.v
        refused := some .nonFinite
        trace := s.trace ++
          [.configure Config.engineArg0 (configured s).g.clockRate.toInt sr] ++
          ([Chan.ch0, Chan.ch1, Chan.ch2].filter (fun d => decide (d.num < c.num))).flatMap
            (restoreCmds (configured s)) ++
          (restoreCmds (configured s) c).take 2 })

/-- R233, R302: DECONFIGURE of an inactive block does nothing; of an active one it clears E.active and
resets the runtime; nothing is emitted, and G, ch, V and the sample rate are kept. -/
def Obligations.DeconfigureStops : Prop :=
  ∀ s : State,
    (s.e.active = false → exec .deconfigure s = .next s) ∧
    (s.e.active = true → exec .deconfigure s = .next { s with
      rt := { ch0 := { noteOn := false, startTime := 0, volCache := none },
              ch1 := { noteOn := false, startTime := 0, volCache := none },
              ch2 := { noteOn := false, startTime := 0, volCache := none } }
      e := { sampleRate := s.e.sampleRate, active := false, elapsed := 0,
             pitchBend := { ch0 := 8192, ch1 := 8192, ch2 := 8192 } }
      x := { h := 0, m := 0, l := 0 } })

/-- R235 to R237, R239 to R241, R243 to R245: each of these parameter writes stores the word unchanged in
the field of its id, emits what the matching event emits, clamped, and changes nothing else; the form
fields emit nothing. -/
def Obligations.ParameterWritesStoreAndEmit : Prop :=
  ∀ (s : State) (w : Word32) (c : Chan) (k : PtIdx),
    exec (.paramWrite (BitVec.ofNat 8 c.num) w) s = .next { s with
      ch := s.ch.set c { s.ch.get c with mixer := w }
      trace := s.emitted [mixerCmd c w] } ∧
    exec (.paramWrite (BitVec.ofNat 8 (3 + c.num)) w) s = .next { s with
      ch := s.ch.set c { s.ch.get c with volume := w }
      trace := s.emitted [.setVolume c (clampedWord 14 w)] } ∧
    exec (.paramWrite 9 w) s = .next { s with
      g := { s.g with envPeriod := w }, trace := s.emitted [.setEnvelope (clampedWord 65535 w)] } ∧
    exec (.paramWrite 10 w) s = .next { s with
      g := { s.g with envShape := w }, trace := s.emitted [.setEnvelopeShape (clampedWord 15 w)] } ∧
    exec (.paramWrite 11 w) s = .next { s with
      g := { s.g with noisePeriod := w }, trace := s.emitted [.setNoise (clampedWord 31 w)] } ∧
    exec (.paramWrite (BitVec.ofNat 8 (13 + 13 * c.num)) w) s = .next { s with
      ch := s.ch.set c { s.ch.get c with numPoints := w } } ∧
    exec (.paramWrite (BitVec.ofNat 8 (14 + 13 * c.num + 2 * k.num)) w) s = .next { s with
      ch := s.ch.set c (withTime (s.ch.get c) k w) } ∧
    exec (.paramWrite (BitVec.ofNat 8 (15 + 13 * c.num + 2 * k.num)) w) s = .next { s with
      ch := s.ch.set c (withRatio (s.ch.get c) k w) }

/-- R234, R238, R242: the parameter writes that can be refused. An id of 52 or more; a pan, stored
unchanged, refused after the store if it is not finite while active; the clock rate while active. -/
def Obligations.ParameterWritesThatMayBeRefused : Prop :=
  ∀ (s : State) (w : Word32) (id : BitVec 8) (c : Chan),
    (52 ≤ id.toNat →
      exec (.paramWrite id w) s = .next { s with refused := some .badParamId }) ∧
    (F32.isFinite w = true → exec (.paramWrite (BitVec.ofNat 8 (6 + c.num)) w) s = .next { s with
      ch := s.ch.set c { s.ch.get c with pan := w }, trace := s.emitted [panCmd c w] }) ∧
    (F32.isFinite w = false → exec (.paramWrite (BitVec.ofNat 8 (6 + c.num)) w) s = .next { s with
      ch := s.ch.set c { s.ch.get c with pan := w }
      refused := if s.e.active then some .nonFinite else s.refused }) ∧
    (s.e.active = true →
      exec (.paramWrite 12 w) s = .next { s with refused := some .configActive }) ∧
    (s.e.active = false →
      exec (.paramWrite 12 w) s = .next { s with g := { s.g with clockRate := w } })

/-- R246, R74, R75, R77: STATE_SAVE hands back a blob of 208 or 52 bytes in which every field of the
layout stands at its offset as its 32-bit word, byte j at offset + j being bits 8j+7..8j of the word, so
the least significant byte comes first; it changes no state; any other layout is refused. That the blob is
appended to a list of replies is the model's choice (log 12). -/
def Obligations.StateSaveWritesEveryField : Prop :=
  ∀ (s : State) (layout : Nat),
    (∃ b : List Byte, exec (.stateSave 0) s = .next { s with replies := s.replies ++ [.blob b] } ∧
      b.length = 208 ∧ (∀ f : Field, memRead32 b f.offset = f.read s) ∧
      ∀ (f : Field) (j : Nat), j < 4 → b[f.offset + j]? = some ((f.read s).extractLsb' (8 * j) 8)) ∧
    (∃ b : List Byte, exec (.stateSave 1) s = .next { s with replies := s.replies ++ [.blob b] } ∧
      b.length = 52 ∧ (∀ f : Field, f.offset < 52 → memRead32 b f.offset = f.read s) ∧
      ∀ (f : Field) (j : Nat), f.offset < 52 → j < 4 →
        b[f.offset + j]? = some ((f.read s).extractLsb' (8 * j) 8)) ∧
    (2 ≤ layout → exec (.stateSave layout) s = .next { s with refused := some .badLayout })

/-- R247, R248: STATE_LOAD by length, in an inactive block: under 52 bytes the defaults and V Defaulted;
under 208 the legacy fields, the form fields at their defaults, V Loaded; from 208 every field, V
Loaded; nothing is validated or emitted. Byte j of a field is bits 8j+7..8j of its word (R75, R77). While
active it is refused. -/
def Obligations.StateLoadByLength : Prop :=
  ∀ (s : State) (blob : List Byte),
    (s.e.active = true → exec (.stateLoad blob) s = .next { s with refused := some .configActive }) ∧
    (s.e.active = false → blob.length < 52 → exec (.stateLoad blob) s = .next { s with
      g := s.cfg.defaults.g, ch := s.cfg.defaults.ch, v := .defaulted }) ∧
    (s.e.active = false → 52 ≤ blob.length → blob.length < 208 →
      ∃ t, exec (.stateLoad blob) s = .next t ∧
        t = { s with g := t.g, ch := t.ch, v := .loaded } ∧
        (∀ f : Field, f.offset < 52 → f.read t = memRead32 blob f.offset) ∧
        (∀ (f : Field) (j : Nat), f.offset < 52 → j < 4 →
          blob[f.offset + j]? = some ((f.read t).extractLsb' (8 * j) 8)) ∧
        (∀ c, (t.ch.get c).numPoints = (s.cfg.defaults.ch.get c).numPoints ∧
          (t.ch.get c).pts = (s.cfg.defaults.ch.get c).pts)) ∧
    (s.e.active = false → 208 ≤ blob.length →
      ∃ t, exec (.stateLoad blob) s = .next t ∧
        t = { s with g := t.g, ch := t.ch, v := .loaded } ∧
        (∀ f : Field, f.read t = memRead32 blob f.offset) ∧
        (∀ (f : Field) (j : Nat), j < 4 →
          blob[f.offset + j]? = some ((f.read t).extractLsb' (8 * j) 8)))

/-- R250: loading what STATE_SAVE returned, from the same state. FULL leaves every field of G and ch as it
was; LEGACY leaves the 13 fields of offsets 0..51 and sets the form fields to DEFAULTS, so it is the
identity on states whose form fields are the defaults. The blob is read from the list of replies, the
model's choice (log 12). -/
def Obligations.SaveThenLoadRoundTrip : Prop :=
  ∀ (s : State) (b : List Byte), s.e.active = false →
    (∀ t, exec (.stateSave 0) s = .next t → t.replies = s.replies ++ [.blob b] →
      ∃ u, exec (.stateLoad b) t = .next u ∧ u.g = s.g ∧ u.ch = s.ch) ∧
    (∀ t, exec (.stateSave 1) s = .next t → t.replies = s.replies ++ [.blob b] →
      ∃ u, exec (.stateLoad b) t = .next u ∧ u.g = s.g ∧
        (∀ c, u.ch.get c = { s.ch.get c with
          numPoints := (s.cfg.defaults.ch.get c).numPoints
          pts := (s.cfg.defaults.ch.get c).pts }) ∧
        ((∀ c, (s.ch.get c).numPoints = (s.cfg.defaults.ch.get c).numPoints ∧
            (s.ch.get c).pts = (s.cfg.defaults.ch.get c).pts) → u.ch = s.ch))

/-- R249: V changes only when a CONFIGURE finds it Uninitialized and when a STATE_LOAD is taken. -/
def Obligations.ValidityTransitions : Prop :=
  ∀ (i : Instr) (s t : State), exec i s = .next t →
    t.v = s.v ∨
    (∃ sr, i = .configure sr ∧ s.v = .uninitialized ∧ t.v = .defaulted) ∨
    (∃ blob, i = .stateLoad blob ∧ s.e.active = false ∧
      t.v = if blob.length < 52 then .defaulted else .loaded)

/-- R278, R212, R302: the mode changes only by CONFIGURE, to Active, and by DECONFIGURE, to Unconfigured;
the elapsed time is cleared only by those two and otherwise changes only by RENDER, which adds
N / sample_rate. -/
def Obligations.ModeAndTimeTransitions : Prop :=
  ∀ (i : Instr) (s t : State), exec i s = .next t →
    (t.e.active = s.e.active ∨ (∃ sr, i = .configure sr ∧ s.e.active = false ∧ t.e.active = true) ∨
      (i = .deconfigure ∧ s.e.active = true ∧ t.e.active = false)) ∧
    (t.e.elapsed = s.e.elapsed ∨
      ((i = .deconfigure ∨ ∃ sr, i = .configure sr) ∧ t.e.elapsed = 0) ∨
      (∃ n numOut events prior, i = .render n numOut events prior ∧ s.e.active = true ∧
        t.e.elapsed = s.e.elapsed + (n : ℚ) / (s.e.sampleRate : ℚ)))
end

