-- ==== Sys2Proof/Laws/State.lean ====
section
/-! SUPPORT. One lemma per field per named update of the state, each true by rfl. -/

namespace Sys2Proof.Machine

open Sys2Proof

/-! ## setG -/

@[simp] theorem State.setG_g (s : State) (g : Global) : (s.setG g).g = g := rfl
@[simp] theorem State.setG_ch (s : State) (g : Global) : (s.setG g).ch = s.ch := rfl
@[simp] theorem State.setG_rt (s : State) (g : Global) : (s.setG g).rt = s.rt := rfl
@[simp] theorem State.setG_e (s : State) (g : Global) : (s.setG g).e = s.e := rfl
@[simp] theorem State.setG_x (s : State) (g : Global) : (s.setG g).x = s.x := rfl
@[simp] theorem State.setG_v (s : State) (g : Global) : (s.setG g).v = s.v := rfl
@[simp] theorem State.setG_refused (s : State) (g : Global) : (s.setG g).refused = s.refused := rfl
@[simp] theorem State.setG_cfg (s : State) (g : Global) : (s.setG g).cfg = s.cfg := rfl
@[simp] theorem State.setG_trace (s : State) (g : Global) : (s.setG g).trace = s.trace := rfl
@[simp] theorem State.setG_pending (s : State) (g : Global) : (s.setG g).pending = s.pending := rfl
@[simp] theorem State.setG_replies (s : State) (g : Global) : (s.setG g).replies = s.replies := rfl
@[simp] theorem State.setG_answerIndex (s : State) (g : Global) : (s.setG g).answerIndex = s.answerIndex := rfl

/-! ## setCh -/

@[simp] theorem State.setCh_g (s : State) (c : Chan) (k : Channel) : (s.setCh c k).g = s.g := rfl
@[simp] theorem State.setCh_ch (s : State) (c : Chan) (k : Channel) : (s.setCh c k).ch = s.ch.set c k := rfl
@[simp] theorem State.setCh_rt (s : State) (c : Chan) (k : Channel) : (s.setCh c k).rt = s.rt := rfl
@[simp] theorem State.setCh_e (s : State) (c : Chan) (k : Channel) : (s.setCh c k).e = s.e := rfl
@[simp] theorem State.setCh_x (s : State) (c : Chan) (k : Channel) : (s.setCh c k).x = s.x := rfl
@[simp] theorem State.setCh_v (s : State) (c : Chan) (k : Channel) : (s.setCh c k).v = s.v := rfl
@[simp] theorem State.setCh_refused (s : State) (c : Chan) (k : Channel) : (s.setCh c k).refused = s.refused := rfl
@[simp] theorem State.setCh_cfg (s : State) (c : Chan) (k : Channel) : (s.setCh c k).cfg = s.cfg := rfl
@[simp] theorem State.setCh_trace (s : State) (c : Chan) (k : Channel) : (s.setCh c k).trace = s.trace := rfl
@[simp] theorem State.setCh_pending (s : State) (c : Chan) (k : Channel) : (s.setCh c k).pending = s.pending := rfl
@[simp] theorem State.setCh_replies (s : State) (c : Chan) (k : Channel) : (s.setCh c k).replies = s.replies := rfl
@[simp] theorem State.setCh_answerIndex (s : State) (c : Chan) (k : Channel) : (s.setCh c k).answerIndex = s.answerIndex := rfl

/-! ## setChs -/

@[simp] theorem State.setChs_g (s : State) (k : PerCh Channel) : (s.setChs k).g = s.g := rfl
@[simp] theorem State.setChs_ch (s : State) (k : PerCh Channel) : (s.setChs k).ch = k := rfl
@[simp] theorem State.setChs_rt (s : State) (k : PerCh Channel) : (s.setChs k).rt = s.rt := rfl
@[simp] theorem State.setChs_e (s : State) (k : PerCh Channel) : (s.setChs k).e = s.e := rfl
@[simp] theorem State.setChs_x (s : State) (k : PerCh Channel) : (s.setChs k).x = s.x := rfl
@[simp] theorem State.setChs_v (s : State) (k : PerCh Channel) : (s.setChs k).v = s.v := rfl
@[simp] theorem State.setChs_refused (s : State) (k : PerCh Channel) : (s.setChs k).refused = s.refused := rfl
@[simp] theorem State.setChs_cfg (s : State) (k : PerCh Channel) : (s.setChs k).cfg = s.cfg := rfl
@[simp] theorem State.setChs_trace (s : State) (k : PerCh Channel) : (s.setChs k).trace = s.trace := rfl
@[simp] theorem State.setChs_pending (s : State) (k : PerCh Channel) : (s.setChs k).pending = s.pending := rfl
@[simp] theorem State.setChs_replies (s : State) (k : PerCh Channel) : (s.setChs k).replies = s.replies := rfl
@[simp] theorem State.setChs_answerIndex (s : State) (k : PerCh Channel) : (s.setChs k).answerIndex = s.answerIndex := rfl

/-! ## setRt -/

@[simp] theorem State.setRt_g (s : State) (c : Chan) (r : Runtime) : (s.setRt c r).g = s.g := rfl
@[simp] theorem State.setRt_ch (s : State) (c : Chan) (r : Runtime) : (s.setRt c r).ch = s.ch := rfl
@[simp] theorem State.setRt_rt (s : State) (c : Chan) (r : Runtime) : (s.setRt c r).rt = s.rt.set c r := rfl
@[simp] theorem State.setRt_e (s : State) (c : Chan) (r : Runtime) : (s.setRt c r).e = s.e := rfl
@[simp] theorem State.setRt_x (s : State) (c : Chan) (r : Runtime) : (s.setRt c r).x = s.x := rfl
@[simp] theorem State.setRt_v (s : State) (c : Chan) (r : Runtime) : (s.setRt c r).v = s.v := rfl
@[simp] theorem State.setRt_refused (s : State) (c : Chan) (r : Runtime) : (s.setRt c r).refused = s.refused := rfl
@[simp] theorem State.setRt_cfg (s : State) (c : Chan) (r : Runtime) : (s.setRt c r).cfg = s.cfg := rfl
@[simp] theorem State.setRt_trace (s : State) (c : Chan) (r : Runtime) : (s.setRt c r).trace = s.trace := rfl
@[simp] theorem State.setRt_pending (s : State) (c : Chan) (r : Runtime) : (s.setRt c r).pending = s.pending := rfl
@[simp] theorem State.setRt_replies (s : State) (c : Chan) (r : Runtime) : (s.setRt c r).replies = s.replies := rfl
@[simp] theorem State.setRt_answerIndex (s : State) (c : Chan) (r : Runtime) : (s.setRt c r).answerIndex = s.answerIndex := rfl

/-! ## setRts -/

@[simp] theorem State.setRts_g (s : State) (r : PerCh Runtime) : (s.setRts r).g = s.g := rfl
@[simp] theorem State.setRts_ch (s : State) (r : PerCh Runtime) : (s.setRts r).ch = s.ch := rfl
@[simp] theorem State.setRts_rt (s : State) (r : PerCh Runtime) : (s.setRts r).rt = r := rfl
@[simp] theorem State.setRts_e (s : State) (r : PerCh Runtime) : (s.setRts r).e = s.e := rfl
@[simp] theorem State.setRts_x (s : State) (r : PerCh Runtime) : (s.setRts r).x = s.x := rfl
@[simp] theorem State.setRts_v (s : State) (r : PerCh Runtime) : (s.setRts r).v = s.v := rfl
@[simp] theorem State.setRts_refused (s : State) (r : PerCh Runtime) : (s.setRts r).refused = s.refused := rfl
@[simp] theorem State.setRts_cfg (s : State) (r : PerCh Runtime) : (s.setRts r).cfg = s.cfg := rfl
@[simp] theorem State.setRts_trace (s : State) (r : PerCh Runtime) : (s.setRts r).trace = s.trace := rfl
@[simp] theorem State.setRts_pending (s : State) (r : PerCh Runtime) : (s.setRts r).pending = s.pending := rfl
@[simp] theorem State.setRts_replies (s : State) (r : PerCh Runtime) : (s.setRts r).replies = s.replies := rfl
@[simp] theorem State.setRts_answerIndex (s : State) (r : PerCh Runtime) : (s.setRts r).answerIndex = s.answerIndex := rfl

/-! ## setE -/

@[simp] theorem State.setE_g (s : State) (e : EngineRt) : (s.setE e).g = s.g := rfl
@[simp] theorem State.setE_ch (s : State) (e : EngineRt) : (s.setE e).ch = s.ch := rfl
@[simp] theorem State.setE_rt (s : State) (e : EngineRt) : (s.setE e).rt = s.rt := rfl
@[simp] theorem State.setE_e (s : State) (e : EngineRt) : (s.setE e).e = e := rfl
@[simp] theorem State.setE_x (s : State) (e : EngineRt) : (s.setE e).x = s.x := rfl
@[simp] theorem State.setE_v (s : State) (e : EngineRt) : (s.setE e).v = s.v := rfl
@[simp] theorem State.setE_refused (s : State) (e : EngineRt) : (s.setE e).refused = s.refused := rfl
@[simp] theorem State.setE_cfg (s : State) (e : EngineRt) : (s.setE e).cfg = s.cfg := rfl
@[simp] theorem State.setE_trace (s : State) (e : EngineRt) : (s.setE e).trace = s.trace := rfl
@[simp] theorem State.setE_pending (s : State) (e : EngineRt) : (s.setE e).pending = s.pending := rfl
@[simp] theorem State.setE_replies (s : State) (e : EngineRt) : (s.setE e).replies = s.replies := rfl
@[simp] theorem State.setE_answerIndex (s : State) (e : EngineRt) : (s.setE e).answerIndex = s.answerIndex := rfl

/-! ## setX -/

@[simp] theorem State.setX_g (s : State) (x : Fragments) : (s.setX x).g = s.g := rfl
@[simp] theorem State.setX_ch (s : State) (x : Fragments) : (s.setX x).ch = s.ch := rfl
@[simp] theorem State.setX_rt (s : State) (x : Fragments) : (s.setX x).rt = s.rt := rfl
@[simp] theorem State.setX_e (s : State) (x : Fragments) : (s.setX x).e = s.e := rfl
@[simp] theorem State.setX_x (s : State) (x : Fragments) : (s.setX x).x = x := rfl
@[simp] theorem State.setX_v (s : State) (x : Fragments) : (s.setX x).v = s.v := rfl
@[simp] theorem State.setX_refused (s : State) (x : Fragments) : (s.setX x).refused = s.refused := rfl
@[simp] theorem State.setX_cfg (s : State) (x : Fragments) : (s.setX x).cfg = s.cfg := rfl
@[simp] theorem State.setX_trace (s : State) (x : Fragments) : (s.setX x).trace = s.trace := rfl
@[simp] theorem State.setX_pending (s : State) (x : Fragments) : (s.setX x).pending = s.pending := rfl
@[simp] theorem State.setX_replies (s : State) (x : Fragments) : (s.setX x).replies = s.replies := rfl
@[simp] theorem State.setX_answerIndex (s : State) (x : Fragments) : (s.setX x).answerIndex = s.answerIndex := rfl

/-! ## setV -/

@[simp] theorem State.setV_g (s : State) (v : Validity) : (s.setV v).g = s.g := rfl
@[simp] theorem State.setV_ch (s : State) (v : Validity) : (s.setV v).ch = s.ch := rfl
@[simp] theorem State.setV_rt (s : State) (v : Validity) : (s.setV v).rt = s.rt := rfl
@[simp] theorem State.setV_e (s : State) (v : Validity) : (s.setV v).e = s.e := rfl
@[simp] theorem State.setV_x (s : State) (v : Validity) : (s.setV v).x = s.x := rfl
@[simp] theorem State.setV_v (s : State) (v : Validity) : (s.setV v).v = v := rfl
@[simp] theorem State.setV_refused (s : State) (v : Validity) : (s.setV v).refused = s.refused := rfl
@[simp] theorem State.setV_cfg (s : State) (v : Validity) : (s.setV v).cfg = s.cfg := rfl
@[simp] theorem State.setV_trace (s : State) (v : Validity) : (s.setV v).trace = s.trace := rfl
@[simp] theorem State.setV_pending (s : State) (v : Validity) : (s.setV v).pending = s.pending := rfl
@[simp] theorem State.setV_replies (s : State) (v : Validity) : (s.setV v).replies = s.replies := rfl
@[simp] theorem State.setV_answerIndex (s : State) (v : Validity) : (s.setV v).answerIndex = s.answerIndex := rfl

/-! ## refuse -/

@[simp] theorem State.refuse_g (s : State) (why : Reason) : (s.refuse why).g = s.g := rfl
@[simp] theorem State.refuse_ch (s : State) (why : Reason) : (s.refuse why).ch = s.ch := rfl
@[simp] theorem State.refuse_rt (s : State) (why : Reason) : (s.refuse why).rt = s.rt := rfl
@[simp] theorem State.refuse_e (s : State) (why : Reason) : (s.refuse why).e = s.e := rfl
@[simp] theorem State.refuse_x (s : State) (why : Reason) : (s.refuse why).x = s.x := rfl
@[simp] theorem State.refuse_v (s : State) (why : Reason) : (s.refuse why).v = s.v := rfl
@[simp] theorem State.refuse_refused (s : State) (why : Reason) : (s.refuse why).refused = some why := rfl
@[simp] theorem State.refuse_cfg (s : State) (why : Reason) : (s.refuse why).cfg = s.cfg := rfl
@[simp] theorem State.refuse_trace (s : State) (why : Reason) : (s.refuse why).trace = s.trace := rfl
@[simp] theorem State.refuse_pending (s : State) (why : Reason) : (s.refuse why).pending = s.pending := rfl
@[simp] theorem State.refuse_replies (s : State) (why : Reason) : (s.refuse why).replies = s.replies := rfl
@[simp] theorem State.refuse_answerIndex (s : State) (why : Reason) : (s.refuse why).answerIndex = s.answerIndex := rfl

/-! ## pushTrace -/

@[simp] theorem State.pushTrace_g (s : State) (cmd : EngineCmd) : (s.pushTrace cmd).g = s.g := rfl
@[simp] theorem State.pushTrace_ch (s : State) (cmd : EngineCmd) : (s.pushTrace cmd).ch = s.ch := rfl
@[simp] theorem State.pushTrace_rt (s : State) (cmd : EngineCmd) : (s.pushTrace cmd).rt = s.rt := rfl
@[simp] theorem State.pushTrace_e (s : State) (cmd : EngineCmd) : (s.pushTrace cmd).e = s.e := rfl
@[simp] theorem State.pushTrace_x (s : State) (cmd : EngineCmd) : (s.pushTrace cmd).x = s.x := rfl
@[simp] theorem State.pushTrace_v (s : State) (cmd : EngineCmd) : (s.pushTrace cmd).v = s.v := rfl
@[simp] theorem State.pushTrace_refused (s : State) (cmd : EngineCmd) : (s.pushTrace cmd).refused = s.refused := rfl
@[simp] theorem State.pushTrace_cfg (s : State) (cmd : EngineCmd) : (s.pushTrace cmd).cfg = s.cfg := rfl
@[simp] theorem State.pushTrace_trace (s : State) (cmd : EngineCmd) : (s.pushTrace cmd).trace = s.trace ++ [cmd] := rfl
@[simp] theorem State.pushTrace_pending (s : State) (cmd : EngineCmd) : (s.pushTrace cmd).pending = s.pending := rfl
@[simp] theorem State.pushTrace_replies (s : State) (cmd : EngineCmd) : (s.pushTrace cmd).replies = s.replies := rfl
@[simp] theorem State.pushTrace_answerIndex (s : State) (cmd : EngineCmd) : (s.pushTrace cmd).answerIndex = s.answerIndex := rfl

/-! ## pushReply -/

@[simp] theorem State.pushReply_g (s : State) (r : Reply) : (s.pushReply r).g = s.g := rfl
@[simp] theorem State.pushReply_ch (s : State) (r : Reply) : (s.pushReply r).ch = s.ch := rfl
@[simp] theorem State.pushReply_rt (s : State) (r : Reply) : (s.pushReply r).rt = s.rt := rfl
@[simp] theorem State.pushReply_e (s : State) (r : Reply) : (s.pushReply r).e = s.e := rfl
@[simp] theorem State.pushReply_x (s : State) (r : Reply) : (s.pushReply r).x = s.x := rfl
@[simp] theorem State.pushReply_v (s : State) (r : Reply) : (s.pushReply r).v = s.v := rfl
@[simp] theorem State.pushReply_refused (s : State) (r : Reply) : (s.pushReply r).refused = s.refused := rfl
@[simp] theorem State.pushReply_cfg (s : State) (r : Reply) : (s.pushReply r).cfg = s.cfg := rfl
@[simp] theorem State.pushReply_trace (s : State) (r : Reply) : (s.pushReply r).trace = s.trace := rfl
@[simp] theorem State.pushReply_pending (s : State) (r : Reply) : (s.pushReply r).pending = s.pending := rfl
@[simp] theorem State.pushReply_replies (s : State) (r : Reply) : (s.pushReply r).replies = s.replies ++ [r] := rfl
@[simp] theorem State.pushReply_answerIndex (s : State) (r : Reply) : (s.pushReply r).answerIndex = s.answerIndex := rfl

/-! ## setPending -/

@[simp] theorem State.setPending_g (s : State) (p : List HostRecord) : (s.setPending p).g = s.g := rfl
@[simp] theorem State.setPending_ch (s : State) (p : List HostRecord) : (s.setPending p).ch = s.ch := rfl
@[simp] theorem State.setPending_rt (s : State) (p : List HostRecord) : (s.setPending p).rt = s.rt := rfl
@[simp] theorem State.setPending_e (s : State) (p : List HostRecord) : (s.setPending p).e = s.e := rfl
@[simp] theorem State.setPending_x (s : State) (p : List HostRecord) : (s.setPending p).x = s.x := rfl
@[simp] theorem State.setPending_v (s : State) (p : List HostRecord) : (s.setPending p).v = s.v := rfl
@[simp] theorem State.setPending_refused (s : State) (p : List HostRecord) : (s.setPending p).refused = s.refused := rfl
@[simp] theorem State.setPending_cfg (s : State) (p : List HostRecord) : (s.setPending p).cfg = s.cfg := rfl
@[simp] theorem State.setPending_trace (s : State) (p : List HostRecord) : (s.setPending p).trace = s.trace := rfl
@[simp] theorem State.setPending_pending (s : State) (p : List HostRecord) : (s.setPending p).pending = p := rfl
@[simp] theorem State.setPending_replies (s : State) (p : List HostRecord) : (s.setPending p).replies = s.replies := rfl
@[simp] theorem State.setPending_answerIndex (s : State) (p : List HostRecord) : (s.setPending p).answerIndex = s.answerIndex := rfl

/-! ## countAnswer -/

@[simp] theorem State.countAnswer_g (s : State) : (s.countAnswer).g = s.g := rfl
@[simp] theorem State.countAnswer_ch (s : State) : (s.countAnswer).ch = s.ch := rfl
@[simp] theorem State.countAnswer_rt (s : State) : (s.countAnswer).rt = s.rt := rfl
@[simp] theorem State.countAnswer_e (s : State) : (s.countAnswer).e = s.e := rfl
@[simp] theorem State.countAnswer_x (s : State) : (s.countAnswer).x = s.x := rfl
@[simp] theorem State.countAnswer_v (s : State) : (s.countAnswer).v = s.v := rfl
@[simp] theorem State.countAnswer_refused (s : State) : (s.countAnswer).refused = s.refused := rfl
@[simp] theorem State.countAnswer_cfg (s : State) : (s.countAnswer).cfg = s.cfg := rfl
@[simp] theorem State.countAnswer_trace (s : State) : (s.countAnswer).trace = s.trace := rfl
@[simp] theorem State.countAnswer_pending (s : State) : (s.countAnswer).pending = s.pending := rfl
@[simp] theorem State.countAnswer_replies (s : State) : (s.countAnswer).replies = s.replies := rfl
@[simp] theorem State.countAnswer_answerIndex (s : State) : (s.countAnswer).answerIndex = s.answerIndex + 1 := rfl

/-! ## Updates of one part of a channel or of a channel's runtime, as whole-element updates -/

theorem State.setMixer_eq (s : State) (c : Chan) (w : Word32) :
    s.setMixer c w = s.setCh c { s.ch.get c with mixer := w } := rfl
theorem State.setVolume_eq (s : State) (c : Chan) (w : Word32) :
    s.setVolume c w = s.setCh c { s.ch.get c with volume := w } := rfl
theorem State.setPan_eq (s : State) (c : Chan) (w : F32) :
    s.setPan c w = s.setCh c { s.ch.get c with pan := w } := rfl
theorem State.setNumPoints_eq (s : State) (c : Chan) (w : Word32) :
    s.setNumPoints c w = s.setCh c { s.ch.get c with numPoints := w } := rfl
theorem State.setTime_eq (s : State) (c : Chan) (k : PtIdx) (w : F32) :
    s.setTime c k w = s.setCh c { s.ch.get c with
      pts := (s.ch.get c).pts.set k { (s.ch.get c).pts.get k with time := w } } := rfl
theorem State.setRatio_eq (s : State) (c : Chan) (k : PtIdx) (w : F32) :
    s.setRatio c k w = s.setCh c { s.ch.get c with
      pts := (s.ch.get c).pts.set k { (s.ch.get c).pts.get k with ratio := w } } := rfl
theorem State.setNoteOn_eq (s : State) (c : Chan) (b : Bool) :
    s.setNoteOn c b = s.setRt c { s.rt.get c with noteOn := b } := rfl
theorem State.setStartTime_eq (s : State) (c : Chan) (t : Rat) :
    s.setStartTime c t = s.setRt c { s.rt.get c with startTime := t } := rfl
theorem State.setVolCache_eq (s : State) (c : Chan) (v : Nat) :
    s.setVolCache c v = s.setRt c { s.rt.get c with volCache := some v } := rfl
theorem State.activate_eq (s : State) (sr : Nat) :
    s.activate sr = s.setE { s.e with sampleRate := sr, active := true } := rfl
theorem State.setActive_eq (s : State) (b : Bool) :
    s.setActive b = s.setE { s.e with active := b } := rfl

end Sys2Proof.Machine
end

