-- ==== Sys2Proof/Laws/Ops.lean ====
section
/-! SUPPORT. What the shared operations can do: indexed access, emit, refusals, sequences, the runtime
reset and the defaults. -/

namespace Sys2Proof

/-! ## Indexed access -/

@[simp] theorem PerCh.get_set_same {α : Type} (p : PerCh α) (c : Chan) (a : α) :
    (p.set c a).get c = a := by cases c <;> rfl

@[simp] theorem PerCh.get_set_ne {α : Type} (p : PerCh α) {c d : Chan} (a : α) (h : d ≠ c) :
    (p.set c a).get d = p.get d := by
  cases c <;> cases d <;> first | rfl | exact absurd rfl h

theorem PerCh.get_set {α : Type} (p : PerCh α) (c d : Chan) (a : α) :
    (p.set c a).get d = if d = c then a else p.get d := by
  cases c <;> cases d <;> rfl

@[simp] theorem PerCh.set_get {α : Type} (p : PerCh α) (c : Chan) : p.set c (p.get c) = p := by
  cases c <;> rfl

@[simp] theorem PerCh.set_set {α : Type} (p : PerCh α) (c : Chan) (a b : α) :
    (p.set c a).set c b = p.set c b := by cases c <;> rfl

theorem PerCh.ext_get {α : Type} {p q : PerCh α} (h : ∀ c, p.get c = q.get c) : p = q := by
  have h0 := h .ch0
  have h1 := h .ch1
  have h2 := h .ch2
  cases p
  cases q
  simp_all [PerCh.get]

@[simp] theorem Points.get_set_same (p : Points) (k : PtIdx) (a : Point) : (p.set k a).get k = a := by
  cases k <;> rfl

@[simp] theorem Points.get_set_ne (p : Points) {k j : PtIdx} (a : Point) (h : j ≠ k) :
    (p.set k a).get j = p.get j := by
  cases k <;> cases j <;> first | rfl | exact absurd rfl h

theorem Points.get_set (p : Points) (k j : PtIdx) (a : Point) :
    (p.set k a).get j = if j = k then a else p.get j := by
  cases k <;> cases j <;> rfl

@[simp] theorem Points.set_get (p : Points) (k : PtIdx) : p.set k (p.get k) = p := by cases k <;> rfl

@[simp] theorem Points.set_set (p : Points) (k : PtIdx) (a b : Point) :
    (p.set k a).set k b = p.set k b := by cases k <;> rfl

@[simp] theorem Points.length_toList (p : Points) : p.toList.length = 6 := rfl

theorem Points.mem_toList {p : Points} {a : Point} : a ∈ p.toList ↔ ∃ k, p.get k = a := by
  constructor
  · intro h
    simp only [Points.toList, List.mem_cons, List.not_mem_nil, or_false] at h
    rcases h with h | h | h | h | h | h
    · exact ⟨.pt0, h.symm⟩
    · exact ⟨.pt1, h.symm⟩
    · exact ⟨.pt2, h.symm⟩
    · exact ⟨.pt3, h.symm⟩
    · exact ⟨.pt4, h.symm⟩
    · exact ⟨.pt5, h.symm⟩
  · rintro ⟨k, rfl⟩
    cases k <;> simp [Points.toList, Points.get]

end Sys2Proof

namespace Sys2Proof.Machine

open Sys2Proof

/-! ## emit: the trace and nothing else (R11) -/

theorem emit_active {s : State} (cmd : EngineCmd) (h : s.e.active = true) :
    emit cmd s = s.pushTrace cmd := by simp [emit, h]

theorem emit_inactive {s : State} (cmd : EngineCmd) (h : s.e.active = false) : emit cmd s = s := by
  simp [emit, h]

/-- Everything emit can do. -/
theorem emit_cases (cmd : EngineCmd) (s : State) :
    (s.e.active = true ∧ emit cmd s = s.pushTrace cmd) ∨ (s.e.active = false ∧ emit cmd s = s) := by
  cases h : s.e.active
  · exact .inr ⟨rfl, emit_inactive cmd h⟩
  · exact .inl ⟨rfl, emit_active cmd h⟩

@[simp] theorem emit_trace (cmd : EngineCmd) (s : State) :
    (emit cmd s).trace = if s.e.active then s.trace ++ [cmd] else s.trace := by
  unfold emit; split <;> rfl

@[simp] theorem emit_g (cmd : EngineCmd) (s : State) : (emit cmd s).g = s.g := by
  unfold emit; split <;> rfl
@[simp] theorem emit_ch (cmd : EngineCmd) (s : State) : (emit cmd s).ch = s.ch := by
  unfold emit; split <;> rfl
@[simp] theorem emit_rt (cmd : EngineCmd) (s : State) : (emit cmd s).rt = s.rt := by
  unfold emit; split <;> rfl
@[simp] theorem emit_e (cmd : EngineCmd) (s : State) : (emit cmd s).e = s.e := by
  unfold emit; split <;> rfl
@[simp] theorem emit_x (cmd : EngineCmd) (s : State) : (emit cmd s).x = s.x := by
  unfold emit; split <;> rfl
@[simp] theorem emit_v (cmd : EngineCmd) (s : State) : (emit cmd s).v = s.v := by
  unfold emit; split <;> rfl
@[simp] theorem emit_refused (cmd : EngineCmd) (s : State) : (emit cmd s).refused = s.refused := by
  unfold emit; split <;> rfl
@[simp] theorem emit_cfg (cmd : EngineCmd) (s : State) : (emit cmd s).cfg = s.cfg := by
  unfold emit; split <;> rfl
@[simp] theorem emit_pending (cmd : EngineCmd) (s : State) : (emit cmd s).pending = s.pending := by
  unfold emit; split <;> rfl
@[simp] theorem emit_replies (cmd : EngineCmd) (s : State) : (emit cmd s).replies = s.replies := by
  unfold emit; split <;> rfl
@[simp] theorem emit_answerIndex (cmd : EngineCmd) (s : State) :
    (emit cmd s).answerIndex = s.answerIndex := by
  unfold emit; split <;> rfl

/-- A state is known by its fields. -/
theorem State.ext_fields {s t : State} (hg : s.g = t.g) (hch : s.ch = t.ch) (hrt : s.rt = t.rt)
    (he : s.e = t.e) (hx : s.x = t.x) (hv : s.v = t.v) (hr : s.refused = t.refused)
    (hc : s.cfg = t.cfg) (ht : s.trace = t.trace) (hp : s.pending = t.pending)
    (hy : s.replies = t.replies) (ha : s.answerIndex = t.answerIndex) : s = t := by
  cases s
  cases t
  simp_all

/-! ## Sequences that may be refused partway (R273) -/

@[simp] theorem Effect.andThen_done {α : Type} (a : α) (f : α → Effect α) :
    (Effect.done a).andThen f = f a := rfl
@[simp] theorem Effect.andThen_raised {α : Type} (why : Reason) (a : α) (f : α → Effect α) :
    (Effect.raised why a).andThen f = .raised why a := rfl

theorem Effect.andThen_assoc {α : Type} (x : Effect α) (f g : α → Effect α) :
    (x.andThen f).andThen g = x.andThen (fun a => (f a).andThen g) := by cases x <;> rfl

/-- If a sequence is done, its first part was done, and so was the rest from there. -/
theorem Effect.andThen_eq_done {α : Type} {x : Effect α} {f : α → Effect α} {b : α}
    (h : x.andThen f = .done b) : ∃ a, x = .done a ∧ f a = .done b := by
  cases x with
  | done a => exact ⟨a, rfl, h⟩
  | raised why a => simp at h

@[simp] theorem Effect.finish_done (s : State) : (Effect.done s).finish = s := rfl
@[simp] theorem Effect.finish_raised (why : Reason) (s : State) :
    (Effect.raised why s).finish = s.refuse why := rfl

/-- The state an effect carries, done or raised. -/
def Effect.carried {α : Type} : Effect α → α
  | .done a => a
  | .raised _ a => a

/-- A property that a part keeps from any state that has it holds of what a sequence carries. -/
theorem Effect.andThen_carried {α : Type} (P : α → Prop) {x : Effect α} {f : α → Effect α}
    (hx : P x.carried) (hf : ∀ a, P a → P (f a).carried) : P (x.andThen f).carried := by
  cases x with
  | done a => exact hf a hx
  | raised why a => exact hx

theorem Effect.forEach_carried {α β : Type} (P : α → Prop) {f : β → α → Effect α}
    (hf : ∀ b a, P a → P (f b a).carried) (bs : List β) :
    ∀ a, P a → P (Effect.forEach f bs a).carried := by
  induction bs with
  | nil => intro a h; exact h
  | cons b rest ih => intro a h; exact Effect.andThen_carried P (hf b a h) ih

/-! ## runtimeReset and the defaults -/

@[simp] theorem runtimeReset_g (s : State) : (runtimeReset s).g = s.g := rfl
@[simp] theorem runtimeReset_ch (s : State) : (runtimeReset s).ch = s.ch := rfl
@[simp] theorem runtimeReset_rt (s : State) : (runtimeReset s).rt = perChOf Runtime.initial := rfl
@[simp] theorem runtimeReset_e (s : State) : (runtimeReset s).e =
    { s.e with elapsed := 0, pitchBend := perChOf Config.bendCentre } := rfl
@[simp] theorem runtimeReset_x (s : State) : (runtimeReset s).x = { h := 0, m := 0, l := 0 } := rfl
@[simp] theorem runtimeReset_v (s : State) : (runtimeReset s).v = s.v := rfl
@[simp] theorem runtimeReset_refused (s : State) : (runtimeReset s).refused = s.refused := rfl
@[simp] theorem runtimeReset_cfg (s : State) : (runtimeReset s).cfg = s.cfg := rfl
@[simp] theorem runtimeReset_trace (s : State) : (runtimeReset s).trace = s.trace := rfl
@[simp] theorem runtimeReset_pending (s : State) : (runtimeReset s).pending = s.pending := rfl
@[simp] theorem runtimeReset_replies (s : State) : (runtimeReset s).replies = s.replies := rfl
@[simp] theorem runtimeReset_answerIndex (s : State) :
    (runtimeReset s).answerIndex = s.answerIndex := rfl

theorem installDefaults_eq (s : State) :
    installDefaults s = { s with g := s.cfg.defaults.g, ch := s.cfg.defaults.ch } := rfl

end Sys2Proof.Machine
end

