-- ==== Sys2Proof/Laws/Events.lean ====
section
/-! SUPPORT. What the shared operations of the event rules can do, written as the one record they leave
(spec/41_events.md). -/

namespace Sys2Proof.Machine

open Sys2Proof

/-- The trace after emitting one command, as a record update (R11). -/
theorem emit_eq (cmd : EngineCmd) (s : State) :
    emit cmd s = { s with trace := if s.e.active then s.trace ++ [cmd] else s.trace } := by
  unfold emit
  split <;> rfl

/-- The perturbation of NoteOff writes the trace only (R162). -/
theorem perturbShape_eq (s : State) :
    perturbShape s = { s with trace := (perturbShape s).trace } := by
  unfold perturbShape
  split
  · rfl
  · rw [emit_eq]

/-- The 21-bit register as a sum: the three fragments do not overlap (R170). -/
theorem periodRegister_eq (x : Fragments) :
    periodRegister x = x.h.toNat * 2 ^ 14 + x.m.toNat * 2 ^ 7 + x.l.toNat := by
  have hm : x.m.toNat < 2 ^ 7 := x.m.isLt
  have hl : x.l.toNat < 2 ^ 7 := x.l.isLt
  unfold periodRegister
  rw [Nat.lor_assoc, ← Nat.shiftLeft_add_eq_or_of_lt hl,
    ← Nat.shiftLeft_add_eq_or_of_lt (by simp only [Nat.shiftLeft_eq]; omega)]
  simp only [Nat.shiftLeft_eq]
  omega

/-- The composition writes the period and the trace only (R170). -/
theorem composePeriod_frame (s : State) :
    composePeriod s = { s with g := (composePeriod s).g, trace := (composePeriod s).trace } := by
  unfold composePeriod
  rw [emit_eq]
  rfl

/-- A clamp of an int32 word never leaves its range (R161). -/
theorem clampInt_le (v lo hi : Int) (h : lo ≤ hi) : lo ≤ clampInt v lo hi ∧ clampInt v lo hi ≤ hi := by
  unfold clampInt
  split_ifs <;> omega

/-- A clamp in Q never leaves its range (R10). -/
theorem clampRat_mem (v lo hi : Rat) (h : lo ≤ hi) : lo ≤ clampRat v lo hi ∧ clampRat v lo hi ≤ hi := by
  unfold clampRat
  split_ifs with h1 h2
  · exact ⟨le_refl lo, h⟩
  · exact ⟨h, le_refl hi⟩
  · exact ⟨not_lt.mp h1, not_lt.mp h2⟩

/-- Every event meaning answers a next state (R160). -/
theorem applyEvent_next (i : Instr) (s : State) : ∃ t, applyEvent i s = .next t := by
  cases i <;> exact ⟨_, rfl⟩

/-- Applying a word is the next state of the meaning of the event it decodes to. -/
theorem applyEvent_applyWord (w : EventWord) (s : State) :
    applyEvent (decodeEvent s.cfg.ccmap w) s = .next (applyWord w s) := by
  obtain ⟨t, h⟩ := applyEvent_next (decodeEvent s.cfg.ccmap w) s
  simp only [applyWord, h, stateAfter]

end Sys2Proof.Machine
end

