-- ==== Sys2Proof/Laws/PerInstr.lean ====
section
/-! SUPPORT. Statements made for each instruction, one lemma per constructor. -/

namespace Sys2Proof.Laws.EncodeShape

-- Sequential elaboration, so that the 46 lemmas below do not each hold a thread at once.
set_option Elab.async false

open Sys2Proof

/-- An instruction that an event word decodes to is encoded as an event word, a host command as a host
record (spec/30_encoding.md R100, R110). -/
def Statement (i : Instr) : Prop :=
  ∀ m : CCMap, (i.isEvent = true → ∃ w, encode m i = .event w) ∧
    (i.isEvent = false → ∃ r, encode m i = .host r)

theorem ignoredType07 (body : BitVec 23) : Statement (.ignoredType07 body) :=
  fun _ => ⟨fun _ => ⟨_, rfl⟩, fun h => by simp [Instr.isEvent] at h⟩
theorem ignoredTypeA (body : BitVec 20) : Statement (.ignoredTypeA body) :=
  fun _ => ⟨fun _ => ⟨_, rfl⟩, fun h => by simp [Instr.isEvent] at h⟩
theorem ignoredTypeD (body : BitVec 20) : Statement (.ignoredTypeD body) :=
  fun _ => ⟨fun _ => ⟨_, rfl⟩, fun h => by simp [Instr.isEvent] at h⟩
theorem ignoredTypeF (body : BitVec 20) : Statement (.ignoredTypeF body) :=
  fun _ => ⟨fun _ => ⟨_, rfl⟩, fun h => by simp [Instr.isEvent] at h⟩
theorem ignoredCh3 (t : EventType) (body : BitVec 16) : Statement (.ignoredCh3 t body) :=
  fun _ => ⟨fun _ => ⟨_, rfl⟩, fun h => by simp [Instr.isEvent] at h⟩
theorem ignoredCh47 (t : EventType) (low : BitVec 2) (body : BitVec 16) : Statement (.ignoredCh47 t low body) :=
  fun _ => ⟨fun _ => ⟨_, rfl⟩, fun h => by simp [Instr.isEvent] at h⟩
theorem ignoredCh815 (t : EventType) (low : BitVec 3) (body : BitVec 16) : Statement (.ignoredCh815 t low body) :=
  fun _ => ⟨fun _ => ⟨_, rfl⟩, fun h => by simp [Instr.isEvent] at h⟩
theorem refusedBit7D1 (t : EventType) (c : Chan) (d1 : BitVec 7) (low : BitVec 8) : Statement (.refusedBit7D1 t c d1 low) :=
  fun _ => ⟨fun _ => ⟨_, rfl⟩, fun h => by simp [Instr.isEvent] at h⟩
theorem refusedBit7D2T8 (c : Chan) (d1 d2 : BitVec 7) : Statement (.refusedBit7D2T8 c d1 d2) :=
  fun _ => ⟨fun _ => ⟨_, rfl⟩, fun h => by simp [Instr.isEvent] at h⟩
theorem refusedBit7D2T9 (c : Chan) (d1 d2 : BitVec 7) : Statement (.refusedBit7D2T9 c d1 d2) :=
  fun _ => ⟨fun _ => ⟨_, rfl⟩, fun h => by simp [Instr.isEvent] at h⟩
theorem refusedBit7D2TB (c : Chan) (d1 d2 : BitVec 7) : Statement (.refusedBit7D2TB c d1 d2) :=
  fun _ => ⟨fun _ => ⟨_, rfl⟩, fun h => by simp [Instr.isEvent] at h⟩
theorem refusedBit7D2TE (c : Chan) (d1 d2 : BitVec 7) : Statement (.refusedBit7D2TE c d1 d2) :=
  fun _ => ⟨fun _ => ⟨_, rfl⟩, fun h => by simp [Instr.isEvent] at h⟩
theorem noteOnV0 (c : Chan) (key : BitVec 7) : Statement (.noteOnV0 c key) :=
  fun _ => ⟨fun _ => ⟨_, rfl⟩, fun h => by simp [Instr.isEvent] at h⟩
theorem noteOn (c : Chan) (key velocity : BitVec 7) : Statement (.noteOn c key velocity) :=
  fun _ => ⟨fun _ => ⟨_, rfl⟩, fun h => by simp [Instr.isEvent] at h⟩
theorem noteOff (c : Chan) (key velocity : BitVec 7) : Statement (.noteOff c key velocity) :=
  fun _ => ⟨fun _ => ⟨_, rfl⟩, fun h => by simp [Instr.isEvent] at h⟩
theorem ccBank (c : Chan) (v : BitVec 7) : Statement (.ccBank c v) :=
  fun _ => ⟨fun _ => ⟨_, rfl⟩, fun h => by simp [Instr.isEvent] at h⟩
theorem ccVolume (c : Chan) (v : BitVec 7) : Statement (.ccVolume c v) :=
  fun _ => ⟨fun _ => ⟨_, rfl⟩, fun h => by simp [Instr.isEvent] at h⟩
theorem ccPan (c : Chan) (v : BitVec 7) : Statement (.ccPan c v) :=
  fun _ => ⟨fun _ => ⟨_, rfl⟩, fun h => by simp [Instr.isEvent] at h⟩
theorem ccEperH (c : Chan) (v : BitVec 7) : Statement (.ccEperH c v) :=
  fun _ => ⟨fun _ => ⟨_, rfl⟩, fun h => by simp [Instr.isEvent] at h⟩
theorem ccEperM (c : Chan) (v : BitVec 7) : Statement (.ccEperM c v) :=
  fun _ => ⟨fun _ => ⟨_, rfl⟩, fun h => by simp [Instr.isEvent] at h⟩
theorem ccEperL (c : Chan) (v : BitVec 7) : Statement (.ccEperL c v) :=
  fun _ => ⟨fun _ => ⟨_, rfl⟩, fun h => by simp [Instr.isEvent] at h⟩
theorem ccEshape (c : Chan) (v : BitVec 7) : Statement (.ccEshape c v) :=
  fun _ => ⟨fun _ => ⟨_, rfl⟩, fun h => by simp [Instr.isEvent] at h⟩
theorem ccDcReset (c : Chan) (v : BitVec 7) : Statement (.ccDcReset c v) :=
  fun _ => ⟨fun _ => ⟨_, rfl⟩, fun h => by simp [Instr.isEvent] at h⟩
theorem ccSwenvCount (c : Chan) (v : BitVec 7) : Statement (.ccSwenvCount c v) :=
  fun _ => ⟨fun _ => ⟨_, rfl⟩, fun h => by simp [Instr.isEvent] at h⟩
theorem ccSwenvTime0 (c : Chan) (v : BitVec 7) : Statement (.ccSwenvTime0 c v) :=
  fun _ => ⟨fun _ => ⟨_, rfl⟩, fun h => by simp [Instr.isEvent] at h⟩
theorem ccSwenvRatio0 (c : Chan) (v : BitVec 7) : Statement (.ccSwenvRatio0 c v) :=
  fun _ => ⟨fun _ => ⟨_, rfl⟩, fun h => by simp [Instr.isEvent] at h⟩
theorem ccSwenvTime1 (c : Chan) (v : BitVec 7) : Statement (.ccSwenvTime1 c v) :=
  fun _ => ⟨fun _ => ⟨_, rfl⟩, fun h => by simp [Instr.isEvent] at h⟩
theorem ccSwenvRatio1 (c : Chan) (v : BitVec 7) : Statement (.ccSwenvRatio1 c v) :=
  fun _ => ⟨fun _ => ⟨_, rfl⟩, fun h => by simp [Instr.isEvent] at h⟩
theorem ccSwenvTime2 (c : Chan) (v : BitVec 7) : Statement (.ccSwenvTime2 c v) :=
  fun _ => ⟨fun _ => ⟨_, rfl⟩, fun h => by simp [Instr.isEvent] at h⟩
theorem ccSwenvRatio2 (c : Chan) (v : BitVec 7) : Statement (.ccSwenvRatio2 c v) :=
  fun _ => ⟨fun _ => ⟨_, rfl⟩, fun h => by simp [Instr.isEvent] at h⟩
theorem ccSwenvTime3 (c : Chan) (v : BitVec 7) : Statement (.ccSwenvTime3 c v) :=
  fun _ => ⟨fun _ => ⟨_, rfl⟩, fun h => by simp [Instr.isEvent] at h⟩
theorem ccSwenvRatio3 (c : Chan) (v : BitVec 7) : Statement (.ccSwenvRatio3 c v) :=
  fun _ => ⟨fun _ => ⟨_, rfl⟩, fun h => by simp [Instr.isEvent] at h⟩
theorem ccSwenvTime4 (c : Chan) (v : BitVec 7) : Statement (.ccSwenvTime4 c v) :=
  fun _ => ⟨fun _ => ⟨_, rfl⟩, fun h => by simp [Instr.isEvent] at h⟩
theorem ccSwenvRatio4 (c : Chan) (v : BitVec 7) : Statement (.ccSwenvRatio4 c v) :=
  fun _ => ⟨fun _ => ⟨_, rfl⟩, fun h => by simp [Instr.isEvent] at h⟩
theorem ccSwenvTime5 (c : Chan) (v : BitVec 7) : Statement (.ccSwenvTime5 c v) :=
  fun _ => ⟨fun _ => ⟨_, rfl⟩, fun h => by simp [Instr.isEvent] at h⟩
theorem ccSwenvRatio5 (c : Chan) (v : BitVec 7) : Statement (.ccSwenvRatio5 c v) :=
  fun _ => ⟨fun _ => ⟨_, rfl⟩, fun h => by simp [Instr.isEvent] at h⟩
theorem ccOther (c : Chan) (k v : BitVec 7) : Statement (.ccOther c k v) :=
  fun _ => ⟨fun _ => ⟨_, rfl⟩, fun h => by simp [Instr.isEvent] at h⟩
theorem programChange (c : Chan) (pv : BitVec 7) (low : BitVec 8) : Statement (.programChange c pv low) :=
  fun _ => ⟨fun _ => ⟨_, rfl⟩, fun h => by simp [Instr.isEvent] at h⟩
theorem pitchBend (c : Chan) (lsb msb : BitVec 7) : Statement (.pitchBend c lsb msb) :=
  fun _ => ⟨fun _ => ⟨_, rfl⟩, fun h => by simp [Instr.isEvent] at h⟩
theorem configure (sampleRate : Nat) : Statement (.configure sampleRate) :=
  fun _ => ⟨fun h => by simp [Instr.isEvent] at h, fun _ => ⟨_, rfl⟩⟩
theorem deconfigure : Statement Instr.deconfigure :=
  fun _ => ⟨fun h => by simp [Instr.isEvent] at h, fun _ => ⟨_, rfl⟩⟩
theorem render (blockLen numOut : Nat) (events : List TimedEvent) (prior : Buffer) : Statement (.render blockLen numOut events prior) :=
  fun _ => ⟨fun h => by simp [Instr.isEvent] at h, fun _ => ⟨_, rfl⟩⟩
theorem paramWrite (id : BitVec 8) (value : Word32) : Statement (.paramWrite id value) :=
  fun _ => ⟨fun h => by simp [Instr.isEvent] at h, fun _ => ⟨_, rfl⟩⟩
theorem stateSave (layout : Nat) : Statement (.stateSave layout) :=
  fun _ => ⟨fun h => by simp [Instr.isEvent] at h, fun _ => ⟨_, rfl⟩⟩
theorem stateLoad (blob : List Byte) : Statement (.stateLoad blob) :=
  fun _ => ⟨fun h => by simp [Instr.isEvent] at h, fun _ => ⟨_, rfl⟩⟩
theorem badOp (op : BitVec 8) : Statement (.badOp op) :=
  fun _ => ⟨fun h => by simp [Instr.isEvent] at h, fun _ => ⟨_, rfl⟩⟩

end Sys2Proof.Laws.EncodeShape
end

