-- ==== Sys2Proof/Laws/Render.lean ====
section
/-! SUPPORT. What rendering a range can do: it writes volume caches, the trace, the answer counter and the
output buffer, and nothing else (spec/42_renderer.md R205 to R211). -/

namespace Sys2Proof.Machine

open Sys2Proof

/-! ## The state that sample rendering may change -/

/-- t is s but for the volume caches, the trace, which has grown, and the answer counter. -/
structure SampleFrame (s t : State) : Prop where
  rest : t = { s with rt := t.rt, trace := t.trace, answerIndex := t.answerIndex }
  noteOn : ∀ c, (t.rt.get c).noteOn = (s.rt.get c).noteOn
  startTime : ∀ c, (t.rt.get c).startTime = (s.rt.get c).startTime
  grows : s.trace <+: t.trace

theorem SampleFrame.refl (s : State) : SampleFrame s s :=
  ⟨rfl, fun _ => rfl, fun _ => rfl, List.prefix_rfl⟩

theorem SampleFrame.trans {s t u : State} (h : SampleFrame s t) (k : SampleFrame t u) :
    SampleFrame s u := by
  refine ⟨?_, fun c => (k.noteOn c).trans (h.noteOn c),
    fun c => (k.startTime c).trans (h.startTime c), h.grows.trans k.grows⟩
  rw [k.rest, h.rest]

theorem SampleFrame.e {s t : State} (h : SampleFrame s t) : t.e = s.e := by rw [h.rest]
theorem SampleFrame.ch {s t : State} (h : SampleFrame s t) : t.ch = s.ch := by rw [h.rest]
theorem SampleFrame.g {s t : State} (h : SampleFrame s t) : t.g = s.g := by rw [h.rest]
theorem SampleFrame.cfg {s t : State} (h : SampleFrame s t) : t.cfg = s.cfg := by rw [h.rest]

/-- The range-skip test does not see what sample rendering changes. -/
theorem SampleFrame.skips {s t : State} (h : SampleFrame s t) : t.skips = s.skips := by
  have h0 : t.rt.ch0.noteOn = s.rt.ch0.noteOn := h.noteOn .ch0
  have h1 : t.rt.ch1.noteOn = s.rt.ch1.noteOn := h.noteOn .ch1
  have h2 : t.rt.ch2.noteOn = s.rt.ch2.noteOn := h.noteOn .ch2
  simp only [State.skips, State.anyNoteOn, h.e, h0, h1, h2]

theorem emit_frame (cmd : EngineCmd) (s : State) : SampleFrame s (emit cmd s) := by
  refine ⟨?_, fun c => by simp, fun c => by simp, ?_⟩
  · unfold emit; split <;> rfl
  · rw [emit_trace]
    split
    · exact List.prefix_append _ _
    · exact List.prefix_rfl

theorem setVolCache_frame (c : Chan) (v : Nat) (s : State) : SampleFrame s (s.setVolCache c v) := by
  refine ⟨rfl, fun d => ?_, fun d => ?_, List.prefix_rfl⟩ <;>
  · simp only [State.setVolCache, State.setRt_rt, PerCh.get_set]
    split_ifs with h
    · rw [h]
    · rfl

theorem updateVolume_frame (c : Chan) (v : Nat) (s : State) : SampleFrame s (updateVolume c v s) := by
  unfold updateVolume
  split
  · exact .refl s
  · exact (emit_frame _ s).trans (setVolCache_frame c v _)

theorem strideChannel_frame (t : Rat) (c : Chan) (s : State) :
    SampleFrame s (strideChannel t c s).carried := by
  unfold strideChannel
  split
  · split
    · exact updateVolume_frame c _ s
    · exact .refl s
  · exact .refl s

theorem strideRecompute_frame (t : Rat) (s : State) :
    SampleFrame s (strideRecompute t s).carried :=
  Effect.forEach_carried (SampleFrame s) (fun c u h => h.trans (strideChannel_frame t c u)) _ s (.refl s)

theorem clockEngine_frame (numOut i : Nat) (r : Rendering) :
    SampleFrame r.st (clockEngine numOut i r).st :=
  ((emit_frame .process r.st).trans (emit_frame .removeDc _)).trans
    ⟨rfl, fun _ => rfl, fun _ => rfl, List.prefix_rfl⟩

theorem renderSample_frame (tBlk : Rat) (numOut i : Nat) (r : Rendering) :
    SampleFrame r.st (renderSample tBlk numOut i r).carried.st := by
  unfold renderSample
  split
  · have h := strideRecompute_frame (sampleTime tBlk i r.st) r.st
    split
    · rename_i s e
      rw [e] at h
      exact SampleFrame.trans h (clockEngine_frame numOut i { r with st := s })
    · rename_i why s e
      rw [e] at h
      exact h
  · exact clockEngine_frame numOut i r

theorem renderSamples_frame (tBlk : Rat) (numOut : Nat) (count : Nat) :
    ∀ (a : Nat) (r : Rendering), SampleFrame r.st (renderSamples tBlk numOut count a r).carried.st := by
  induction count with
  | zero => intro a r; exact .refl r.st
  | succ k ih =>
    intro a r
    exact Effect.andThen_carried (fun r' => SampleFrame r.st r'.st) (renderSample_frame tBlk numOut a r)
      (fun r' h => h.trans (ih (a + 1) r'))

/-- What rendering a range can change in the state. -/
theorem renderRange_frame (tBlk : Rat) (numOut a b : Nat) (r : Rendering) :
    SampleFrame r.st (renderRange tBlk numOut a b r).carried.st := by
  unfold renderRange
  split
  · exact .refl r.st
  · split
    · exact .refl r.st
    · exact renderSamples_frame tBlk numOut _ a r

/-! ## The cursor and the shape of the buffer -/

@[simp] theorem clockEngine_cursor (numOut i : Nat) (r : Rendering) :
    (clockEngine numOut i r).cursor = r.cursor := rfl

theorem renderSample_cursor (tBlk : Rat) (numOut i : Nat) (r : Rendering) :
    (renderSample tBlk numOut i r).carried.cursor = r.cursor := by
  unfold renderSample
  split
  · split <;> rfl
  · rfl

theorem renderSamples_cursor (tBlk : Rat) (numOut : Nat) (count : Nat) :
    ∀ (a : Nat) (r : Rendering), (renderSamples tBlk numOut count a r).carried.cursor = r.cursor := by
  induction count with
  | zero => intro a r; rfl
  | succ k ih =>
    intro a r
    exact Effect.andThen_carried (fun r' => r'.cursor = r.cursor) (renderSample_cursor tBlk numOut a r)
      (fun r' h => (ih (a + 1) r').trans h)

/-- Only the event loop moves the cursor (R203). -/
theorem renderRange_cursor (tBlk : Rat) (numOut a b : Nat) (r : Rendering) :
    (renderRange tBlk numOut a b r).carried.cursor = r.cursor := by
  unfold renderRange
  split
  · rfl
  · split
    · rfl
    · exact renderSamples_cursor tBlk numOut _ a r

theorem writeSlot_shape (out : Buffer) (k i : Nat) (x : Sample) :
    (writeSlot out k i x).map List.length = out.map List.length := by
  unfold writeSlot
  apply List.ext_getElem?
  intro j
  simp only [List.getElem?_map, List.getElem?_modify]
  cases out[j]? with
  | none => rfl
  | some slots =>
    by_cases h : k = j
    · simp [h]
    · simp [h]

theorem outputCopy_shape (numOut i : Nat) (l r : Sample) (out : Buffer) :
    (outputCopy numOut i l r out).map List.length = out.map List.length := by
  unfold outputCopy
  split
  · rfl
  · exact writeSlot_shape _ _ _ _
  · rw [writeSlot_shape, writeSlot_shape]

/-- A write to channel k leaves the other channels alone. -/
theorem writeSlot_other (out : Buffer) {k j : Nat} (i : Nat) (x : Sample) (h : j ≠ k) :
    (writeSlot out k i x)[j]? = out[j]? := by
  simp [writeSlot, Ne.symm h]

theorem renderSample_shape (tBlk : Rat) (numOut i : Nat) (r : Rendering) :
    (renderSample tBlk numOut i r).carried.out.map List.length = r.out.map List.length := by
  unfold renderSample
  split
  · split
    · exact outputCopy_shape _ _ _ _ _
    · rfl
  · exact outputCopy_shape _ _ _ _ _

theorem renderSamples_shape (tBlk : Rat) (numOut : Nat) (count : Nat) :
    ∀ (a : Nat) (r : Rendering),
      (renderSamples tBlk numOut count a r).carried.out.map List.length = r.out.map List.length := by
  induction count with
  | zero => intro a r; rfl
  | succ k ih =>
    intro a r
    exact Effect.andThen_carried (fun r' => r'.out.map List.length = r.out.map List.length)
      (renderSample_shape tBlk numOut a r) (fun r' h => (ih (a + 1) r').trans h)

/-- A slot other than the one written is left alone. -/
theorem writeSlot_slot (out : Buffer) {k i m j : Nat} (x : Sample) (h : ¬ (m = k ∧ j = i)) :
    (writeSlot out k i x).slot m j = out.slot m j := by
  unfold Buffer.slot writeSlot
  rw [List.getElem?_modify]
  cases hm : out[m]? with
  | none => rfl
  | some slots =>
    by_cases hk : k = m
    · have hj : i ≠ j := fun e => h ⟨hk.symm, e.symm⟩
      simp [hk, hj]
    · simp [hk]

/-- Copying sample i writes no slot of another sample. -/
theorem outputCopy_slot (numOut : Nat) {i j : Nat} (l r : Sample) (out : Buffer) (m : Nat) (h : j ≠ i) :
    (outputCopy numOut i l r out).slot m j = out.slot m j := by
  unfold outputCopy
  split
  · rfl
  · exact writeSlot_slot out _ (fun e => h e.2)
  · rw [writeSlot_slot _ _ (fun e => h e.2), writeSlot_slot _ _ (fun e => h e.2)]

/-- Rendering sample i writes no slot of another sample. -/
theorem renderSample_slot (tBlk : Rat) (numOut : Nat) {i j : Nat} (r : Rendering) (m : Nat) (h : j ≠ i) :
    (renderSample tBlk numOut i r).carried.out.slot m j = r.out.slot m j := by
  unfold renderSample
  split
  · split
    · exact outputCopy_slot _ _ _ _ _ h
    · rfl
  · exact outputCopy_slot _ _ _ _ _ h

/-- Rendering never changes the shape of the output buffer (R72). -/
theorem renderRange_shape (tBlk : Rat) (numOut a b : Nat) (r : Rendering) :
    (renderRange tBlk numOut a b r).carried.out.map List.length = r.out.map List.length := by
  unfold renderRange
  split
  · rfl
  · split
    · rfl
    · exact renderSamples_shape tBlk numOut _ a r

/-! ## The event loop -/

/-- The events of a list are processed one part after the other (R203). -/
theorem eventLoop_append (tBlk : Rat) (blockLen numOut : Nat) (xs ys : List TimedEvent) :
    ∀ r : Rendering, eventLoop tBlk blockLen numOut (xs ++ ys) r =
      (eventLoop tBlk blockLen numOut xs r).andThen (eventLoop tBlk blockLen numOut ys) := by
  induction xs with
  | nil => intro r; rfl
  | cons x rest ih =>
    intro r
    obtain ⟨w, off⟩ := x
    simp only [List.cons_append, eventLoop, Effect.andThen_assoc]
    congr 1
    funext r'
    exact ih _

end Sys2Proof.Machine
end

