-- ==== Sys2Proof/Laws/Snapshot.lean ====
section
/-! SUPPORT. The blob primitives: read after write, and a write leaves every other place alone
(spec/20_memory.md R77); reading and writing one stored field (R76). -/

namespace Sys2Proof.Machine

open Sys2Proof

@[simp] theorem length_memWrite32 (b : List Byte) (off : Nat) (w : Word32) :
    (memWrite32 b off w).length = b.length := by simp [memWrite32]

theorem memWrite32_getD (b : List Byte) (off i : Nat) (w : Word32) (h : off + 4 ≤ b.length) :
    (memWrite32 b off w).getD i 0 =
      if i = off then lo4 w 0 else if i = off + 1 then lo4 w 1
      else if i = off + 2 then lo4 w 2 else if i = off + 3 then lo4 w 3 else b.getD i 0 := by
  unfold memWrite32
  simp only [List.getD_eq_getElem?_getD, List.getElem?_set, List.length_set]
  by_cases h0 : i = off
  · subst h0
    have : i < b.length := by omega
    simp [this]
  by_cases h1 : i = off + 1
  · subst h1
    have : off + 1 < b.length := by omega
    simp [this]
  by_cases h2 : i = off + 2
  · subst h2
    have : off + 2 < b.length := by omega
    simp [this]
  by_cases h3 : i = off + 3
  · subst h3
    have : off + 3 < b.length := by omega
    simp [this]
  simp [h0, h1, h2, h3, Ne.symm h0, Ne.symm h1, Ne.symm h2, Ne.symm h3]

theorem lo4_append (w : Word32) : lo4 w 3 ++ lo4 w 2 ++ lo4 w 1 ++ lo4 w 0 = w := by
  unfold lo4
  apply BitVec.eq_of_getLsbD_eq
  intro i hi
  simp only [BitVec.getLsbD_append, BitVec.getLsbD_extractLsb']
  by_cases h0 : i < 8
  · simp [h0]
  by_cases h1 : i < 16
  · simp [h0, show i - 8 < 8 by omega, show 8 + (i - 8) = i by omega]
  by_cases h2 : i < 24
  · simp [h0, show ¬ i - 8 < 8 by omega, show i - 8 - 8 < 8 by omega,
      show 16 + (i - 8 - 8) = i by omega]
  · simp [h0, show ¬ i - 8 < 8 by omega, show ¬ i - 8 - 8 < 8 by omega,
      show i - 8 - 8 - 8 < 8 by omega, show 24 + (i - 8 - 8 - 8) = i by omega]

/-- A read after a write to the same place gives the word written. -/
theorem memRead32_memWrite32 (b : List Byte) (off : Nat) (w : Word32) (h : off + 4 ≤ b.length) :
    memRead32 (memWrite32 b off w) off = w := by
  unfold memRead32
  simp only [memWrite32_getD b off _ w h]
  simp [lo4_append]

/-- A write leaves every word that does not overlap it alone. -/
theorem memRead32_memWrite32_ne (b : List Byte) (off i : Nat) (w : Word32) (h : off + 4 ≤ b.length)
    (hd : i + 4 ≤ off ∨ off + 4 ≤ i) : memRead32 (memWrite32 b off w) i = memRead32 b i := by
  unfold memRead32
  simp only [memWrite32_getD b off _ w h]
  have hne : ∀ j k, j < 4 → k < 4 → i + j ≠ off + k := by omega
  have hz : ∀ j, j < 4 → i + j ≠ off := fun j hj => hne j 0 hj (by omega)
  have h0 : ∀ k, k < 4 → i ≠ off + k := fun k hk => hne 0 k (by omega) hk
  have h00 : i ≠ off := hne 0 0 (by omega) (by omega)
  simp only [h00, hz 1 (by omega), hz 2 (by omega), hz 3 (by omega), h0 1 (by omega), h0 2 (by omega),
    h0 3 (by omega), hne 1 1 (by omega) (by omega), hne 1 2 (by omega) (by omega),
    hne 1 3 (by omega) (by omega), hne 2 1 (by omega) (by omega), hne 2 2 (by omega) (by omega),
    hne 2 3 (by omega) (by omega), hne 3 1 (by omega) (by omega), hne 3 2 (by omega) (by omega),
    hne 3 3 (by omega) (by omega), if_false]

/-! ## Fields -/

/-- A field read after a write to it gives the word written. -/
@[simp] theorem Field.read_write_same (f : Field) (w : Word32) (s : State) :
    f.read (f.write w s) = w := by
  cases f <;> simp [Field.read, Field.write, State.setMixer_eq, State.setVolume_eq, State.setPan_eq,
    State.setNumPoints_eq, State.setTime_eq, State.setRatio_eq]

/-- A write to a field leaves every other field alone. -/
@[simp] theorem Field.read_write_ne {f f' : Field} (h : f' ≠ f) (w : Word32) (s : State) :
    f'.read (f.write w s) = f'.read s := by
  cases f <;> cases f' <;>
    simp_all only [Field.read, Field.write, State.setMixer_eq, State.setVolume_eq, State.setPan_eq,
      State.setNumPoints_eq, State.setTime_eq, State.setRatio_eq, State.setCh_ch, State.setCh_g,
      State.setG_g, State.setG_ch, PerCh.get_set, ne_eq, not_true_eq_false] <;>
    split_ifs with hc <;>
    simp_all [Points.get_set] <;>
    split_ifs <;> simp_all

/-- A write to a persisted field changes nothing but G and ch. -/
theorem Field.write_frame (f : Field) (w : Word32) (s : State) :
    f.write w s = { s with g := (f.write w s).g, ch := (f.write w s).ch } := by
  cases f <;> rfl

/-- The persisted state is known by its 52 fields. -/
theorem persisted_ext {s t : State} (h : ∀ f : Field, f.read s = f.read t) :
    s.g = t.g ∧ s.ch = t.ch := by
  constructor
  · have h1 := h .envPeriod
    have h2 := h .envShape
    have h3 := h .noisePeriod
    have h4 := h .clockRate
    cases hs : s.g
    cases ht : t.g
    simp_all [Field.read]
  · apply PerCh.ext_get
    intro c
    have h1 := h (.mixer c)
    have h2 := h (.volume c)
    have h3 := h (.pan c)
    have h4 := h (.numPoints c)
    have hp : (s.ch.get c).pts = (t.ch.get c).pts := by
      have e : ∀ k, (s.ch.get c).pts.get k = (t.ch.get c).pts.get k := by
        intro k
        have a := h (.time c k)
        have b := h (.ratio c k)
        simp only [Field.read] at a b
        cases hx : (s.ch.get c).pts.get k
        cases hy : (t.ch.get c).pts.get k
        simp_all
      have e0 := e .pt0
      have e1 := e .pt1
      have e2 := e .pt2
      have e3 := e .pt3
      have e4 := e .pt4
      have e5 := e .pt5
      cases hx : (s.ch.get c).pts
      cases hy : (t.ch.get c).pts
      simp_all [Points.get]
    simp only [Field.read] at h1 h2 h3 h4
    cases hx : s.ch.get c
    cases hy : t.ch.get c
    simp_all

end Sys2Proof.Machine
end

