-- ==== Sys2Proof/Tests/Slice0.lean ====
section
/-! SUPPORT. Tests: ill-formed terms that the checks refuse, words written out from spec/30_encoding.md
and spec/95_test_vectors.md, at most two small tests for an instruction, and for every statement with
hypotheses a concrete state and operands that meet them. -/

namespace Sys2Proof.Tests

-- Sequential elaboration, so that the many small theorems below do not each hold a thread at once.
set_option Elab.async false

open Sys2Proof Sys2Proof.Machine

/-! ## WellFormed smoke tests: one ill-formed term for each check -/

/-- BANK and VOLUME share a number. -/
theorem test_ccmap_distinct :
    { Config.standardCcmap with bank := 7 }.wellFormed = false := by decide
/-- DCRESET above 127. -/
theorem test_ccmap_seven_bits :
    { Config.standardCcmap with dcReset := 128 }.wellFormed = false := by decide
/-- PAN inside the software-envelope range. -/
theorem test_ccmap_outside_swenv :
    { Config.standardCcmap with pan := 114 }.wellFormed = false := by decide
/-- The software-envelope range ends above 127. -/
theorem test_ccmap_swenv_end :
    { Config.standardCcmap with swenvBase := 116 }.wellFormed = false := by decide
theorem test_ccmap_standard : Config.standardCcmap.wellFormed = true := by decide
/-- A NOTEON of velocity 0 is a NOTEON_V0 word. -/
theorem test_wf_noteOn : (Instr.noteOn .ch0 60 0).wf Config.standardCcmap = false := by decide
/-- Controller 7 is mapped. -/
theorem test_wf_ccOther : (Instr.ccOther .ch0 7 0).wf Config.standardCcmap = false := by decide
/-- A buffer of one channel for numOut = 2. -/
theorem test_wf_render :
    (Instr.render 1 2 [] [[{ code := 0 }]]).wf Config.standardCcmap = false := by decide
/-- A buffer with a channel of the wrong length. -/
theorem test_wf_render_slots : (Instr.render 1 1 [] [[]]).wf Config.standardCcmap = false := by decide
/-- Op 3 is RENDER. -/
theorem test_wf_badOp : (Instr.badOp 3).wf Config.standardCcmap = false := by decide

/-! ## Decoding: one word for every constructor -/

theorem test_decode_ignored :
    decodeTableWord 24 0x7F7F7F = some (.ignoredType07 0x7F7F7F) ∧
    decodeTableWord 24 0xA03C40 = some (.ignoredTypeA 0x03C40) ∧
    decodeTableWord 24 0xD04000 = some (.ignoredTypeD 0x04000) ∧
    decodeTableWord 24 0xF00000 = some (.ignoredTypeF 0) ∧
    decodeTableWord 24 0x933C40 = some (.ignoredCh3 .noteOn 0x3C40) ∧
    decodeTableWord 24 0xB5077F = some (.ignoredCh47 .controlChange 1 0x077F) ∧
    decodeTableWord 24 0x9F8080 = some (.ignoredCh815 .noteOn 7 0x8080) := by decide

theorem test_decode_refused :
    decodeTableWord 24 0xC08000 = some (.refusedBit7D1 .programChange .ch0 0 0) ∧
    decodeTableWord 24 0x803C80 = some (.refusedBit7D2T8 .ch0 60 0) ∧
    decodeTableWord 24 0x903CC0 = some (.refusedBit7D2T9 .ch0 60 64) ∧
    decodeTableWord 24 0xB00780 = some (.refusedBit7D2TB .ch0 7 0) ∧
    decodeTableWord 24 0xE00080 = some (.refusedBit7D2TE .ch0 0 0) := by decide

theorem test_decode_notes :
    decodeTableWord 24 0x903C00 = some (.noteOnV0 .ch0 60) ∧
    decodeTableWord 24 0x91455A = some (.noteOn .ch1 69 90) ∧
    decodeTableWord 24 0x814500 = some (.noteOff .ch1 69 0) ∧
    decodeTableWord 24 0xC16555 = some (.programChange .ch1 101 0x55) ∧
    decodeTableWord 24 0xE20102 = some (.pitchBend .ch2 1 2) := by decide

theorem test_decode_controllers :
    decodeTableWord 24 0xB20005 = some (.ccBank .ch2 5) ∧
    decodeTableWord 24 0xB1077F = some (.ccVolume .ch1 127) ∧
    decodeTableWord 24 0xB00A40 = some (.ccPan .ch0 64) ∧
    decodeTableWord 24 0xB21001 = some (.ccEperH .ch2 1) ∧
    decodeTableWord 24 0xB21102 = some (.ccEperM .ch2 2) ∧
    decodeTableWord 24 0xB21203 = some (.ccEperL .ch2 3) ∧
    decodeTableWord 24 0xB0131E = some (.ccEshape .ch0 0x1E) ∧
    decodeTableWord 24 0xB1507F = some (.ccDcReset .ch1 127) ∧
    decodeTableWord 24 0xB06500 = some (.ccOther .ch0 101 0) := by decide

theorem test_decode_swenv :
    decodeTableWord 24 0xB26602 = some (.ccSwenvCount .ch2 2) ∧
    decodeTableWord 24 0xB2671E = some (.ccSwenvTime0 .ch2 30) ∧
    decodeTableWord 24 0xB26840 = some (.ccSwenvRatio0 .ch2 64) ∧
    decodeTableWord 24 0xB26900 = some (.ccSwenvTime1 .ch2 0) ∧
    decodeTableWord 24 0xB26A7F = some (.ccSwenvRatio1 .ch2 127) ∧
    decodeTableWord 24 0xB06B01 = some (.ccSwenvTime2 .ch0 1) ∧
    decodeTableWord 24 0xB06C02 = some (.ccSwenvRatio2 .ch0 2) ∧
    decodeTableWord 24 0xB06D0A = some (.ccSwenvTime3 .ch0 10) ∧
    decodeTableWord 24 0xB06E03 = some (.ccSwenvRatio3 .ch0 3) ∧
    decodeTableWord 24 0xB06F04 = some (.ccSwenvTime4 .ch0 4) ∧
    decodeTableWord 24 0xB07005 = some (.ccSwenvRatio4 .ch0 5) ∧
    decodeTableWord 24 0xB1717F = some (.ccSwenvTime5 .ch1 127) ∧
    decodeTableWord 24 0xB17200 = some (.ccSwenvRatio5 .ch1 0) := by decide

theorem test_decode_host :
    decodeTableWord 8 0x01 = some (.configure 0) ∧ decodeTableWord 8 0x02 = some .deconfigure ∧
    decodeTableWord 8 0x03 = some (.render 0 0 [] []) ∧
    decodeTableWord 8 0x04 = some (.paramWrite 0 0) ∧
    decodeTableWord 8 0x05 = some (.stateSave 0) ∧ decodeTableWord 8 0x06 = some (.stateLoad []) ∧
    decodeTableWord 8 0x07 = some (.badOp 7) ∧ decodeTableWord 8 0x00 = some (.badOp 0) := by decide

/-- A record with a buffer of another shape, and a byte string that is no event word. -/
theorem test_decode_errors :
    decodeRecord { op := 3, blockLen := 1, numOut := 1 } = .error .bufferShape ∧
    decodeEventBytes Config.standardCcmap [0x90, 0x3C] = .error .notThreeBytes := by decide

/-- The words of the pseudo-instruction EPERIOD 0, 16643 (V-EPER). -/
theorem test_eperiod_words :
    (Pseudo.expand Config.standardCcmap (.eperiod 0 16643)).map EventLine.word =
      [0xB01001, 0xB01102, 0xB01203] := by decide

/-! ## One step on small states; expected values from 95_test_vectors.md -/

/-- The next state of a result. -/
def nextOf (r : Host.Outcome State Fault Refusal) : State :=
  match r with
  | .next t => t
  | .fault _ => State.reset
  | .refused _ => State.reset

/-- An active block at 44100 samples per second with the defaults, and an empty trace. -/
def live : State :=
  { State.reset with
    v := .defaulted
    e := { sampleRate := 44100, active := true, elapsed := 0, pitchBend := perChOf 8192 } }

/-- The same block with channel 0 sounding. -/
def sounding : State := live.setRt .ch0 { noteOn := true, startTime := 0, volCache := none }

/-- W-2. -/
theorem test_noteOn : (nextOf (exec (.noteOn .ch0 57 100) live)).trace =
    [.setMixer .ch0 true false false, .setEnvelopeShape 0, .setTone .ch0 284] := by decide +kernel
/-- W-7. -/
theorem test_noteOn_busy : nextOf (exec (.noteOn .ch0 69 127) sounding) = sounding := by decide +kernel
/-- V-NOTE, another key. -/
theorem test_noteOff : (nextOf (exec (.noteOff .ch0 12 0) sounding)).trace =
    [.setMixer .ch0 false false false] := by decide +kernel
/-- The optional perturbation of R162. -/
theorem test_noteOff_perturb :
    (nextOf (exec (.noteOff .ch0 12 0)
      { sounding with cfg := { Config.standard with noteOffPerturb := some 9 } })).trace =
    [.setMixer .ch0 false false false, .setEnvelopeShape 9] := by decide +kernel
/-- W-6. -/
theorem test_noteOnV0 : nextOf (exec (.noteOnV0 .ch0 57) sounding) =
    nextOf (exec (.noteOff .ch0 57 0) sounding) := by decide +kernel
/-- V-TONE: the truncation at key 60 and the ends of the range. -/
theorem test_tonePeriod : tonePeriod 2000000 60 = 238 ∧ tonePeriod 2000000 0 = 7644 ∧
    tonePeriod 2000000 127 = 4 ∧ tonePeriod 1 57 = 0 := by decide +kernel
/-- V-PC: PROG 0, 0x40 with w[7:0] = 0xFF. -/
theorem test_programChange : (nextOf (exec (.programChange .ch0 0x40 0xFF) live)).trace =
    [.setNoise 0, .setMixer .ch0 false true false] := by decide +kernel
/-- V-PC: PROG 1, 127 stores noise 31 and mixer 3. -/
theorem test_programChange_stores :
    let t := nextOf (exec (.programChange .ch1 127 0) live)
    t.g.noisePeriod = 31 ∧ t.ch.ch1.mixer = 3 := by decide +kernel
/-- V-BANK: MIX 2, 5 and MIX 1, 8. -/
theorem test_bank : (nextOf (exec (.ccBank .ch2 5) live)).trace = [.setMixer .ch2 true false true] ∧
    (nextOf (exec (.ccBank .ch1 8) live)).ch.ch1.mixer = 0 := by decide +kernel
/-- V-PAN: PAN 0, 127 stores 0x3F7E0000. -/
theorem test_pan : (nextOf (exec (.ccPan .ch0 127) live)).ch.ch0.pan = 0x3F7E0000 := by decide +kernel
/-- V-VOL. -/
theorem test_volume : (nextOf (exec (.ccVolume .ch1 127) live)).trace = [.setVolume .ch1 14] ∧
    volumeOf 7 = 0 ∧ volumeOf 8 = 1 ∧ volumeOf 111 = 13 ∧ volumeOf 112 = 14 := by decide +kernel
/-- V-EPER: from fragments (0, 2, 5), H <- 1 gives 16645. -/
theorem test_eperH :
    (nextOf (exec (.ccEperH .ch0 1) { live with x := { h := 0, m := 2, l := 5 } })).trace =
    [.setEnvelope 16645] := by decide +kernel
/-- V-EPER: EPH 0, 4 saturates, and H stays cached (C1). -/
theorem test_eperH_saturates :
    let t := nextOf (exec (.ccEperH .ch0 4) live)
    t.trace = [.setEnvelope 65535] ∧ t.g.envPeriod = 65535 ∧ t.x.h = 4 := by decide +kernel
/-- V-EPER: EPL 0, 5 then EPM 0, 2. -/
theorem test_eperM :
    (nextOf (exec (.ccEperM .ch0 2) { live with x := { h := 0, m := 0, l := 5 } })).g.envPeriod = 261 := by
  decide +kernel
/-- R314: PARAM 9, 1000 does not touch the fragments. -/
theorem test_eperL : (nextOf (exec (.ccEperL .ch0 5)
    (nextOf (exec (.paramWrite 9 1000) live)))).trace = [.setEnvelope 1000, .setEnvelope 5] := by
  decide +kernel
/-- V-SHAPE: ESHAPE 0, 0x1E. -/
theorem test_eshape :
    let t := nextOf (exec (.ccEshape .ch0 0x1E) live)
    t.trace = [.setEnvelopeShape 14] ∧ t.g.envShape = 14 := by decide +kernel
/-- V-DC. -/
theorem test_dcReset : (nextOf (exec (.ccDcReset .ch1 127) live)).trace = [.removeDc] := by decide +kernel
/-- V-SWENV: SWN 0, 127. -/
theorem test_swenvCount :
    let t := nextOf (exec (.ccSwenvCount .ch0 127) live)
    t.ch.ch0.numPoints = 6 ∧ t.trace = [] := by decide +kernel
/-- W-4: time0 of 30. -/
theorem test_swenvTime : (nextOf (exec (.ccSwenvTime0 .ch2 30) live)).ch.ch2.pts.p0 =
    { time := 0x3F666666, ratio := 0 } := by decide +kernel
/-- V-SWENV: SWT 1, 5, 127. -/
theorem test_swenvTime5 : (nextOf (exec (.ccSwenvTime5 .ch1 127) live)).ch.ch1.pts.p5 =
    { time := 0x41810831, ratio := 0 } := by decide +kernel
/-- W-4: ratio1 of 127. -/
theorem test_swenvRatio : (nextOf (exec (.ccSwenvRatio1 .ch2 127) live)).ch.ch2.pts.p1 =
    { time := 0, ratio := 0x3F800000 } := by decide +kernel
/-- R177: decRatio(65), just above the split. -/
theorem test_decRatio : decRatio 65 = 0x3F03060C ∧ decRatio 64 = 0x3F000000 := by decide +kernel
/-- R182: BEND 0, 0, 64, and 127, 127 of P2. -/
theorem test_pitchBend : (nextOf (exec (.pitchBend .ch0 0 64) live)).e.pitchBend.ch0 = 8192 ∧
    (nextOf (exec (.pitchBend .ch1 127 127) live)).e.pitchBend.ch1 = 16383 := by decide +kernel
/-- An unmapped controller, on a sounding block. -/
theorem test_ccOther : nextOf (exec (.ccOther .ch0 1 64) sounding) = sounding := by decide +kernel

/-! ### The envelope (2.13) -/

/-- A form of one point: time 0.5, ratio 1. -/
def onePoint : List Point := [{ time := 0x3F000000, ratio := 0x3F800000 }]

/-- R144 from the origin, R143 beyond the last point, R147 at the point itself. -/
theorem test_ratio : ratio (1 / 4) onePoint = .ok (1 / 2) ∧ ratio 3 onePoint = .ok 1 ∧
    ratio (1 / 2) onePoint = .ok 1 ∧ ratio 0 onePoint = .ok 0 := by decide +kernel
/-- V-ENV-7: the out-of-order form of R148 at e = 0.45 · 2. -/
theorem test_ratio_out_of_order :
    ratio 1 [{ time := 0x3F666666, ratio := 0x3F000000 }, { time := 0, ratio := 0x3F800000 }] = .ok 1 := by
  decide +kernel
/-- R10: half away from zero. -/
theorem test_effVol : effVol 7 (1 / 2) = 4 ∧ effVol 15 1 = 14 ∧ effVol 0xFFFFFFFF 1 = 0 := by decide +kernel

/-! ### Host commands -/

/-- V-HOST-1: the first command and the length of the restore sequence. -/
theorem test_configure :
    let t := nextOf (exec (.configure 44100) State.reset)
    t.trace.length = 12 ∧ t.v = .defaulted ∧ t.e.active = true ∧ t.refused = none := by decide +kernel
/-- V-HOST-2 and V-HOST-3. -/
theorem test_configure_refused :
    (nextOf (exec (.configure 48000) live)).refused = some .configActive ∧
    (nextOf (exec (.configure 0) State.reset)).refused = some .badRate := by decide +kernel
/-- V-HOST-7. -/
theorem test_deconfigure :
    let t := nextOf (exec .deconfigure sounding)
    t.e.active = false ∧ t.rt.ch0.noteOn = false ∧ t.trace = [] ∧ t.e.sampleRate = 44100 := by
  decide +kernel
/-- V-HOST-9: PARAM 5, -1. -/
theorem test_param_volume :
    let t := nextOf (exec (.paramWrite 5 0xFFFFFFFF) live)
    t.ch.ch2.volume = 0xFFFFFFFF ∧ t.trace = [.setVolume .ch2 0] := by decide +kernel
/-- V-HOST-12 and V-HOST-20. -/
theorem test_param_refused :
    (nextOf (exec (.paramWrite 6 0x7FC00000) live)).refused = some .nonFinite ∧
    (nextOf (exec (.paramWrite 52 0) live)).refused = some .badParamId := by decide +kernel
/-- V-HOST-23: the legacy blob of the defaults. -/
theorem test_save : (nextOf (exec (.stateSave 1) State.reset)).replies =
    [.blob [1, 0, 0, 0, 1, 0, 0, 0, 1, 0, 0, 0, 14, 0, 0, 0, 14, 0, 0, 0, 14, 0, 0, 0,
      0, 0, 0, 0x3F, 0, 0, 0, 0x3F, 0, 0, 0, 0x3F, 0, 0, 0, 0, 0, 0, 0, 0, 0, 0, 0, 0,
      0x80, 0x84, 0x1E, 0]] := by decide +kernel
/-- V-HOST-21. -/
theorem test_save_refused :
    (nextOf (exec (.stateSave 2) live)).refused = some .badLayout := by decide +kernel
/-- V-HOST-25 and V-HOST-26: 51 and 52 bytes. -/
theorem test_load :
    (nextOf (exec (.stateLoad (List.replicate 51 1)) State.reset)).v = .defaulted ∧
    (nextOf (exec (.stateLoad (List.replicate 52 1)) State.reset)).g.clockRate = 0x01010101 := by
  decide +kernel
/-- V-HOST-30. -/
theorem test_load_refused :
    (nextOf (exec (.stateLoad []) live)).refused = some .configActive := by decide +kernel
/-- V-HOST-22. -/
theorem test_badOp : (nextOf (exec (.badOp 7) live)).refused = some .badOp := by decide +kernel
/-- P5: refused before any effect. -/
theorem test_render_order :
    nextOf (exec (.render 0 0 [(0x903964, 5), (0x803900, 2)] []) live) = live.refuse .offsetOrder := by
  decide +kernel
/-- P6: the partway refusal keeps the NoteOn. -/
theorem test_render_nonfinite :
    let s := live.setCh .ch0 { Config.standardChannel with
      numPoints := 1
      pts := { Config.standardChannel.pts with p0 := { time := 0x3F000000, ratio := 0x7FC00000 } } }
    let t := nextOf (exec (.render 30 0 [(0x903964, 0)] []) s)
    t.refused = some .nonFinite ∧ t.rt.ch0.noteOn = true ∧ t.trace.length = 3 ∧ t.e.elapsed = 0 := by
  decide +kernel
/-- A refused word of an event list and the ignored words never change a live block. -/
theorem test_ignored : nextOf (exec (.ignoredType07 0) live) = live ∧
    nextOf (exec (.ignoredTypeA 0) live) = live ∧ nextOf (exec (.ignoredTypeD 0) live) = live ∧
    nextOf (exec (.ignoredTypeF 0) live) = live ∧ nextOf (exec (.ignoredCh3 .noteOn 0) live) = live ∧
    nextOf (exec (.ignoredCh47 .noteOff 0 0) live) = live ∧
    nextOf (exec (.ignoredCh815 .pitchBend 0 0) live) = live := by decide +kernel
theorem test_refused_words :
    nextOf (exec (.refusedBit7D1 .noteOn .ch0 60 64) live) = live.refuse .dataBit7 ∧
    nextOf (exec (.refusedBit7D2T8 .ch0 60 0) live) = live.refuse .dataBit7 ∧
    nextOf (exec (.refusedBit7D2T9 .ch0 60 64) live) = live.refuse .dataBit7 ∧
    nextOf (exec (.refusedBit7D2TB .ch0 7 0) live) = live.refuse .dataBit7 ∧
    nextOf (exec (.refusedBit7D2TE .ch0 0 0) live) = live.refuse .dataBit7 := by decide +kernel

/-! ### step -/

/-- The three ways a step does not run a command: nothing issued, a marked state, a bad buffer. -/
theorem test_step_idle : nextOf (step State.reset) = State.reset := by decide +kernel
theorem test_step_halted : step (State.reset.refuse .badOp) = .fault (.halted .badOp) := rfl
theorem test_step_bufferShape :
    step (State.reset.setPending [{ op := 3, blockLen := 1, numOut := 1 }]) = .refused .bufferShape := rfl
theorem test_step_word :
    (nextOf (step (live.withFetchWord 24 0xB1077F))).trace = [.setVolume .ch1 14] := by decide +kernel

/-! ## Witnesses: what meets the hypotheses of each statement -/

theorem witness_DecodeOfEncode :
    Config.standardCcmap.wellFormed = true ∧ (Instr.noteOn .ch2 127 1).wf Config.standardCcmap = true ∧
    (Instr.ccOther .ch0 115 0).wf Config.standardCcmap = true ∧
    (Instr.render 1 1 [(0xFFFFFF, 9)] [[{ code := 0 }]]).wf Config.standardCcmap = true ∧
    (Instr.badOp 7).wf Config.standardCcmap = true ∧ (Instr.badOp 0).wf Config.standardCcmap = true := by
  decide

/-- One word for each clause: an unknown type, a channel of 3, of 15, and on channels 0 to 2 a bad byte
and a good word of each type. -/
theorem witness_EventWordDecodeOrder :
    ((0x7F7F7F : EventWord).extractLsb' 20 4).toNat ∉ [0x8, 0x9, 0xB, 0xC, 0xE] ∧
    ((0xF00000 : EventWord).extractLsb' 20 4).toNat ∉ [0x8, 0x9, 0xB, 0xC, 0xE] ∧
    3 ≤ ((0x830000 : EventWord).extractLsb' 16 4).toNat ∧
    ((0x820000 : EventWord).extractLsb' 16 4).toNat = Chan.ch2.num ∧
    (0xC08000 : EventWord).getLsbD 15 = true ∧ (0xE00080 : EventWord).getLsbD 7 = true ∧
    ((0x903C00 : EventWord).extractLsb' 20 4).toNat = 0x9 ∧ (0x903C00 : EventWord).getLsbD 15 = false ∧
    (0x903C00 : EventWord).extractLsb' 0 7 = 0 ∧ (0x903C01 : EventWord).extractLsb' 0 7 ≠ 0 ∧
    (0xC040FF : EventWord).getLsbD 15 = false ∧
    ((0xB07200 : EventWord).extractLsb' 20 4).toNat = 0xB ∧ (0xB07200 : EventWord).getLsbD 7 = false := by
  decide

/-- The first and last numbers of the software-envelope range, a mapped number, and the two beside. -/
theorem witness_ControllerNumbersSelectFunctions :
    Config.standardCcmap.wellFormed = true ∧ (0 : BitVec 7).toNat = Config.standardCcmap.bank ∧
    (102 : BitVec 7).toNat = Config.standardCcmap.swenvBase ∧
    (103 : BitVec 7).toNat = Config.standardCcmap.swenvBase + 1 + 2 * PtIdx.pt0.num ∧
    (114 : BitVec 7).toNat = Config.standardCcmap.swenvBase + 2 + 2 * PtIdx.pt5.num ∧
    (101 : BitVec 7).toNat ∉ Config.standardCcmap.singles ∧
    (101 : BitVec 7).toNat < Config.standardCcmap.swenvBase ∧
    Config.standardCcmap.swenvBase + 12 < (115 : BitVec 7).toNat := by decide

/-- A state whose next command is a CONFIGURE. -/
def asked : State := State.reset.setPending [{ op := 1, sampleRate := 44100 }]

theorem witness_StepRunsDecodedCommand :
    asked.cfg.ccmap.wellFormed = true ∧ asked.refused = none ∧
    asked.pending = { op := 1, sampleRate := 44100 } :: [] ∧
    decodeRecord { op := 1, sampleRate := 44100 } = .ok (.configure 44100) := by decide

theorem witness_StepRunsDecodedEvent :
    live.cfg.ccmap.wellFormed = true ∧ live.refused = none ∧
    (decodeEvent live.cfg.ccmap (BitVec.ofNat 24 0x903964)).isDataBit7 = false ∧
    (decodeEvent live.cfg.ccmap (BitVec.ofNat 24 0x903CC0)).isDataBit7 = true := by decide

theorem witness_NoStepFromRefusedState : (State.reset.refuse .badOp).refused ≠ none := by decide

/-- A block whose software-envelope range ends at 128. -/
def illFormed : State :=
  { State.reset with cfg :=
    { Config.standard with ccmap := { Config.standardCcmap with swenvBase := 116 } } }

theorem witness_IllFormedCcmapIsRefused : illFormed.cfg.ccmap.wellFormed = false := by decide

theorem asked_inv : asked.Inv where
  traceInRange := by intro cmd h; cases h
  activeRate := by intro h; cases h
  activeClock := by intro h; cases h
  activeConfigured := by intro h; cases h
  cacheLegal := by intro c v h; cases c <;> cases h
  startLegal := by intro c; cases c <;> exact ⟨le_refl _, le_refl _⟩
  inactiveTime := fun _ => rfl

/-- The step of a CONFIGURE from a state with the invariant. -/
theorem witness_StepKeepsInvariant : asked.Inv ∧ ∃ t, step asked = .next t ∧ t.e.active = true :=
  ⟨asked_inv, nextOf (step asked), rfl, by decide +kernel⟩

/-- A run that emits: a CONFIGURE is issued after the creation, and taken. -/
theorem witness_EveryEmittedCommandInRange :
    ∃ s, Reachable Config.standard s ∧ s.trace.length = 12 :=
  ⟨nextOf (step asked), .stepped (.issued { op := 1, sampleRate := 44100 } .created) rfl,
    by decide +kernel⟩

theorem witness_TraceOnlyGrows : step asked = .next (nextOf (step asked)) := rfl

theorem witness_InactiveBlockEmitsNothing :
    State.reset.e.active = false ∧
    exec (.noteOn .ch0 57 100) State.reset = .next (nextOf (exec (.noteOn .ch0 57 100) State.reset)) ∧
    (nextOf (exec (.noteOn .ch0 57 100) State.reset)).e.active = false := ⟨rfl, rfl, rfl⟩

theorem witness_NoteOff_NoteOn : (sounding.rt.get .ch0).noteOn = true ∧
    (live.rt.get .ch0).noteOn = false := by decide

theorem witness_RefusedInputs : (0 : BitVec 8).toNat = 0 ∧ 6 < (7 : BitVec 8).toNat := by decide

theorem witness_TonePeriodFormula : (1 : Int) ≤ 1 ∧ (1 : Int) ≤ 2 ^ 31 - 1 := by decide

theorem witness_EperiodSetsThePeriod :
    live.cfg.ccmap.wellFormed = true ∧ 2 ^ 21 - 1 < 2 ^ 21 ∧ live.e.active = true ∧
    Pseudo.expand live.cfg.ccmap (.eperiod Chan.ch0.num (2 ^ 21 - 1)) =
      [.cc 0 16 127, .cc 0 17 127, .cc 0 18 127] := by decide

theorem witness_EventsWriteOnlyTheirElements :
    (Instr.pitchBend .ch0 0 0).isEvent = true ∧ (Instr.pitchBend .ch0 0 0).isDataBit7 = false := by decide

theorem witness_ControlChangeIsIdempotent :
    (0xB01203 : EventWord).extractLsb' 20 4 = 0xB ∧
    ∃ t u, exec (decodeEvent Config.standardCcmap 0xB01203) live = .next t ∧
      exec (decodeEvent Config.standardCcmap 0xB01203) t = .next u := ⟨by decide, _, _, rfl, rfl⟩

/-- The largest finite value, 0, and a tie: 2^24 + 1 lies halfway between two significands. -/
theorem witness_ToF32IsNearest :
    |((2 ^ 24 - 1) * 2 ^ 104 : ℚ)| ≤ (2 ^ 24 - 1) * 2 ^ 104 ∧ |(0 : ℚ)| ≤ (2 ^ 24 - 1) * 2 ^ 104 ∧
    F32.isFinite 0x7F7FFFFF = true ∧ toF32 (2 ^ 24 + 1) = 0x4B800000 := by
  refine ⟨?_, ?_, by decide, by decide +kernel⟩ <;> norm_num

theorem witness_EffectiveVolumeRounds :
    (0 ≤ (14 : Word32).toInt ∧ (14 : Word32).toInt ≤ 14) ∧ ((0 : ℚ) ≤ 1 ∧ (1 : ℚ) ≤ 1) ∧
    |(roundRat (1 / 2) : ℚ) - 1 / 2| = 1 / 2 := by
  refine ⟨by decide, by norm_num, ?_⟩
  rw [show roundRat (1 / 2) = 1 by decide +kernel]
  norm_num

/-- A breakpoint at time 1 with ratio 1/2, and one at time 0 with ratio 1, before it. -/
def atOne : Point := { time := 0x3F800000, ratio := 0x3F000000 }
def atZero : Point := { time := 0, ratio := 0x3F800000 }
def notFinite : Point := { time := 0x7FC00000, ratio := 0x7F800000 }

theorem witness_EnvelopeInterpolates :
    (∀ q ∈ [atZero], ∃ t, F32.val q.time = some t ∧ t ≤ 0) ∧ F32.val atOne.time = some 1 ∧
    F32.val atOne.ratio = some (1 / 2) ∧ (0 : ℚ) < 1 ∧ F32.val atZero.time = some 0 ∧
    F32.val atZero.ratio = some 1 := by
  refine ⟨?_, by decide +kernel, by decide +kernel, by norm_num, by decide +kernel, by decide +kernel⟩
  intro q hq
  simp only [List.mem_singleton] at hq
  exact ⟨0, by rw [hq]; decide +kernel, le_refl 0⟩

theorem witness_EnvelopeHoldsAndIsPinned :
    (∀ q ∈ [] ++ [atOne], ∃ t, F32.val q.time = some t ∧ t ≤ 1) ∧ F32.val atOne.ratio = some (1 / 2) ∧
    F32.val atOne.time = some 1 ∧ (0 : ℚ) < 1 := by
  refine ⟨?_, by decide +kernel, by decide +kernel, by norm_num⟩
  intro q hq
  simp only [List.nil_append, List.mem_singleton] at hq
  exact ⟨1, by rw [hq]; decide +kernel, le_refl 1⟩

theorem witness_EnvelopeStaysInUnitRange :
    [atZero] ≠ [] ∧ ∀ p ∈ [atZero], F32.isFinite p.time = true ∧ F32.isFinite p.ratio = true ∧
      0 ≤ F32.finiteVal p.ratio ∧ F32.finiteVal p.ratio ≤ 1 := by decide +kernel

/-- A breakpoint at time 1, and one at time 0, whose ratio is not finite. -/
def badRatio : Point := { time := 0x3F800000, ratio := 0x7F800000 }
def badLast : Point := { time := 0, ratio := 0xFF800000 }

/-- Clause by clause at e = 0: a time, a selected ratio, a segment's start, and a held ratio. -/
theorem witness_EnvelopeRefusesNonFinite :
    F32.val notFinite.time = none ∧
    (F32.val badRatio.time = some 1 ∧ (0 : ℚ) < 1 ∧ F32.val badRatio.ratio = none) ∧
    (F32.val atOne.time = some 1 ∧ F32.val badLast.time = some 0 ∧ F32.val badLast.ratio = none) ∧
    ∀ q ∈ [badLast], ∃ t, F32.val q.time = some t ∧ t ≤ 0 := by
  refine ⟨by decide +kernel, ⟨by decide +kernel, by norm_num, by decide +kernel⟩,
    ⟨by decide +kernel, by decide +kernel, by decide +kernel⟩, ?_⟩
  intro q hq
  simp only [List.mem_singleton] at hq
  exact ⟨0, by rw [hq]; decide +kernel, le_refl 0⟩

theorem offsetsRise_one (w : EventWord) (k : Nat) : OffsetsRise [(w, k)] := by
  intro j a b _ h
  simp at h

theorem witness_RenderChecksItsList :
    ¬ OffsetsRise [(0x903964, 5), (0x803900, 2)] ∧ OffsetsRise [(0xB00780, 5)] ∧
    ¬ NoBadData Config.standardCcmap [(0xB00780, 5)] ∧ OffsetsRise [(0x903964, 0)] ∧
    NoBadData Config.standardCcmap [(0x903964, 0)] := by
  refine ⟨fun h => absurd (h 0 _ _ rfl rfl) (by decide), offsetsRise_one _ _, ?_, offsetsRise_one _ _, ?_⟩
  · intro h
    exact absurd (h _ (List.mem_singleton.mpr rfl)) (by decide)
  · intro ev h
    rw [List.mem_singleton.mp h]
    decide

/-- RenderCompletes and RenderWithoutSamplesAppliesEvents: a NOTEON at offset 0, in a live block and in
an inactive one. -/
theorem witness_RenderCompletes :
    OffsetsRise [(0x903964, 0)] ∧ NoBadData live.cfg.ccmap [(0x903964, 0)] ∧ live.formsFinite ∧
    State.reset.e.active = false ∧ live.e.active = true := by
  refine ⟨offsetsRise_one _ _, witness_RenderChecksItsList.2.2.2.2, ?_, rfl, rfl⟩
  intro c k
  cases c <;> cases k <;> decide

theorem witness_SilentRenderTouchesNothing : ∀ c, (live.rt.get c).noteOn = false := by
  intro c; cases c <;> rfl

/-- A block with channel 0 sounding on a breakpoint whose time is not finite. -/
def unevaluable : State :=
  sounding.setCh .ch0 { Config.standardChannel with
    numPoints := 1, pts := { Config.standardChannel.pts with p0 := notFinite } }

/-- A range done, one refused partway, and for the kept slots each cause: before, after, two skips. -/
theorem witness_RenderRangeSplits :
    (0 : Nat) ≤ 25 ∧ (25 : Nat) ≤ 64 ∧
    (∃ r', renderRange 0 0 1 3 { st := sounding, cursor := 0, out := [] } = .done r') ∧
    (∃ r', renderRange 0 0 24 26 { st := unevaluable, cursor := 0, out := [] } =
      .raised .nonFinite r') ∧
    (0 : Nat) < 1 ∧ (3 : Nat) ≤ 3 ∧ State.reset.e.active = false ∧ (live.rt.get .ch0).noteOn = false ∧
    (live.rt.get .ch1).noteOn = false ∧ (live.rt.get .ch2).noteOn = false :=
  ⟨by decide, by decide, ⟨_, rfl⟩, ⟨_, rfl⟩, by decide, by decide, rfl, rfl, rfl, rfl⟩

/-- A rendering of a sounding block, on the stride, off it, and refused on it. -/
theorem witness_SampleEmissions :
    sounding.e.active = true ∧ unevaluable.e.active = true ∧
    (∃ r', renderSample 0 0 25 { st := sounding, cursor := 0, out := [] } = .done r') ∧
    (∃ r', renderSample 0 0 24 { st := sounding, cursor := 0, out := [] } = .done r') ∧
    (∃ r', renderSample 0 0 25 { st := unevaluable, cursor := 0, out := [] } = .raised .nonFinite r') :=
  ⟨rfl, rfl, ⟨_, rfl⟩, ⟨_, rfl⟩, ⟨_, rfl⟩⟩

/-- Channel 0 sounds with one breakpoint, channel 1 is released, channel 2 has no breakpoint. -/
def enveloped : State :=
  (sounding.setCh .ch0 { Config.standardChannel with
    numPoints := 1, pts := { Config.standardChannel.pts with p0 := atOne } }).setRt .ch2
    { noteOn := true, startTime := 0, volCache := some 14 }

theorem witness_StrideRecomputesVolumes :
    (enveloped.rt.get .ch0).noteOn = true ∧ 0 < (enveloped.ch.get .ch0).numPoints.toInt ∧
    ratio (1 / 2 - (enveloped.rt.get .ch0).startTime)
      ((enveloped.ch.get .ch0).pts.toList.take
        (clampedWord 6 (enveloped.ch.get .ch0).numPoints)) = .ok (1 / 4) ∧
    (enveloped.rt.get .ch1).noteOn = false ∧ (enveloped.ch.get .ch2).numPoints.toInt ≤ 0 ∧
    (unevaluable.rt.get .ch0).noteOn = true ∧ 0 < (unevaluable.ch.get .ch0).numPoints.toInt ∧
    ratio (1 / 2 - (unevaluable.rt.get .ch0).startTime)
      ((unevaluable.ch.get .ch0).pts.toList.take
        (clampedWord 6 (unevaluable.ch.get .ch0).numPoints)) = .error .nonFinite := by
  decide +kernel

theorem witness_OutputMapping :
    ([[{ code := 1 }], [{ code := 2 }]] : Buffer)[1]? = some [{ code := 2 }] ∧
    0 < ([{ code := 2 }] : List Sample).length := by decide

/-- A NOTEON at offset 0, a volume controller at offset 1, and two events after it, one at the same offset
and one beyond the end of the block of 2: nothing is refused. -/
def threeParts : List TimedEvent :=
  [(0x903964, 0)] ++ (0xB00777, 1) :: [(0xB0070A, 1), (0x803900, 9)]

/-- The commands of R203: those events stand among the process() commands of the two samples. -/
theorem witness_EventsAreSampleAccurate :
    ∃ t, exec (.render 2 0 threeParts []) live = .next t ∧ t.refused = none ∧ t.trace =
      [.setMixer .ch0 true false false, .setEnvelopeShape 0, .setTone .ch0 284, .process, .removeDc,
        .setVolume .ch0 14, .setVolume .ch0 1, .process, .removeDc, .setMixer .ch0 false false false] :=
  ⟨nextOf (exec (.render 2 0 threeParts []) live), rfl, by decide +kernel, by decide +kernel⟩

/-- R52: the cursor ends at N, with an event in the block and with none. -/
theorem test_cursor_ends_at_N :
    (∃ r, renderEvents 0 2 0 [(0x903964, 0)] { st := live, cursor := 0, out := [] } = .done r ∧
      r.cursor = 2) ∧
    (∃ r, renderEvents 0 2 0 [] { st := live, cursor := 0, out := [] } = .done r ∧ r.cursor = 2) :=
  ⟨⟨_, rfl, rfl⟩, ⟨_, rfl, rfl⟩⟩

theorem witness_RenderIgnoresEngineAnswers :
    ∃ t t', exec (.render 2 0 [] []) sounding = .next t ∧
      exec (.render 2 1 [] [[]]) { sounding with answerIndex := 7, replies := [] } = .next t' :=
  ⟨_, _, rfl, rfl⟩

theorem witness_ConfigureCompletes :
    State.reset.e.active = false ∧ 0 < 1 ∧ 0 < (configured State.reset).g.clockRate.toInt ∧
    ∀ c, F32.isFinite ((configured State.reset).ch.get c).pan = true := by
  refine ⟨rfl, by decide, by decide, ?_⟩
  intro c; cases c <;> decide

/-- A loaded state with a clock of 0, and one whose channel 2 has a pan that is not a number. -/
def badClock : State := { State.reset with v := .loaded, g := { State.reset.g with clockRate := 0 } }
def badPan : State :=
  { State.reset with
    v := .loaded, ch := State.reset.ch.set .ch2 { Config.standardChannel with pan := 0x7FC00000 } }

/-- A state with V Uninitialized whose defaults have a clock of 0. -/
def badDefaults : State :=
  { State.reset with cfg := { Config.standard with defaults := { Config.standard.defaults with
    g := { Config.standard.defaults.g with clockRate := 0 } } } }

theorem witness_ConfigureRefusals :
    live.e.active = true ∧ State.reset.e.active = false ∧
    (badClock.e.active = false ∧ (configured badClock).g.clockRate.toInt ≤ 0) ∧
    (badDefaults.e.active = false ∧ badDefaults.v = .uninitialized ∧
      (configured badDefaults).g.clockRate.toInt ≤ 0) ∧
    (badPan.e.active = false ∧ 0 < (configured badPan).g.clockRate.toInt ∧
      F32.isFinite ((configured badPan).ch.get .ch2).pan = false ∧
      ∀ d : Chan, d.num < Chan.ch2.num → F32.isFinite ((configured badPan).ch.get d).pan = true) := by
  refine ⟨rfl, rfl, by decide, by decide, by decide, by decide, by decide, ?_⟩
  intro d; cases d <;> decide

theorem witness_DeconfigureStops : State.reset.e.active = false ∧ live.e.active = true := ⟨rfl, rfl⟩

theorem witness_ParameterWritesThatMayBeRefused :
    52 ≤ (52 : BitVec 8).toNat ∧ 52 ≤ (255 : BitVec 8).toNat ∧ F32.isFinite 0x7F7FFFFF = true ∧
    F32.isFinite 0x7F800000 = false ∧ live.e.active = true ∧ State.reset.e.active = false := by decide

theorem witness_StateSaveWritesEveryField :
    2 ≤ 2 ∧ 0 < 4 ∧ 3 < 4 ∧ Field.clockRate.offset < 52 ∧ ¬ (Field.numPoints .ch0).offset < 52 := by decide

theorem witness_StateLoadByLength :
    live.e.active = true ∧ State.reset.e.active = false ∧ (List.replicate 51 (0 : Byte)).length < 52 ∧
    52 ≤ (List.replicate 52 (0 : Byte)).length ∧ (List.replicate 207 (0 : Byte)).length < 208 ∧
    208 ≤ (List.replicate 208 (0 : Byte)).length := by simp; decide

theorem witness_SaveThenLoadRoundTrip :
    State.reset.e.active = false ∧
    (∃ t, exec (.stateSave 0) State.reset = .next t ∧
      t.replies = State.reset.replies ++ [.blob (saveBlob 208 State.reset)]) ∧
    (∃ t, exec (.stateSave 1) State.reset = .next t ∧
      t.replies = State.reset.replies ++ [.blob (saveBlob 52 State.reset)]) ∧
    (∀ c, (State.reset.ch.get c).numPoints = (State.reset.cfg.defaults.ch.get c).numPoints ∧
      (State.reset.ch.get c).pts = (State.reset.cfg.defaults.ch.get c).pts) :=
  ⟨rfl, ⟨_, rfl, rfl⟩, ⟨_, rfl, rfl⟩, fun _ => ⟨rfl, rfl⟩⟩

/-- ValidityTransitions and ModeAndTimeTransitions: a command with a next state. -/
theorem witness_Transitions :
    exec .deconfigure live = .next (nextOf (exec .deconfigure live)) ∧
    exec (.configure 1) State.reset = .next (nextOf (exec (.configure 1) State.reset)) := ⟨rfl, rfl⟩

end Sys2Proof.Tests
end

section
/-! SUPPORT. The arithmetic of binary32 (spec/00_scope.md R9): powers of two, rounding to nearest even, the
value of a pattern, and that `toF32` is the nearest value. -/

namespace Sys2Proof.Machine

open Sys2Proof

/-! ## Powers of two and the binary logarithm -/

/-- The exact power of R9 is Mathlib's integer power. -/
theorem pow2_eq_zpow (e : Int) : pow2 e = (2 : ℚ) ^ e := by
  unfold pow2
  split_ifs with h
  · lift e to ℕ using h
    simp
  · obtain ⟨k, rfl⟩ : ∃ k : ℕ, e = -k := ⟨(-e).toNat, by omega⟩
    simp

theorem natPow_mul_zpow (i : ℕ) (e : ℤ) : (((2 ^ i : ℕ) : ℤ) : ℚ) * 2 ^ e = 2 ^ (e + i) := by
  rw [zpow_add₀ two_ne_zero, zpow_natCast]
  push_cast
  ring

/-- Scaling numerator and denominator by the two one-sided powers of two multiplies the quotient by
2 ^ k. -/
theorem div_mul_zpow_eq (n d : ℕ) (k : ℤ) :
    ((n * 2 ^ k.toNat : ℕ) : ℚ) / ((d * 2 ^ (-k).toNat : ℕ) : ℚ) = (n : ℚ) / d * 2 ^ k := by
  have hk : (2 : ℚ) ^ k = 2 ^ k.toNat / 2 ^ (-k).toNat := by
    rw [← zpow_natCast, ← zpow_natCast, ← zpow_sub₀ two_ne_zero]
    congr 1
    omega
  rw [hk]
  push_cast
  rw [div_mul_div_comm]

/-- `floorLog2` is the exponent of the binade that holds n / d. -/
theorem floorLog2_spec {n d : ℕ} (hn : n ≠ 0) (hd : d ≠ 0) :
    (2 : ℚ) ^ floorLog2 n d ≤ (n : ℚ) / d ∧ (n : ℚ) / d < 2 ^ (floorLog2 n d + 1) := by
  have hd0 : (0 : ℚ) < d := by positivity
  have hnlo : (2 : ℚ) ^ (Nat.log2 n : ℤ) ≤ n := by exact_mod_cast Nat.log2_self_le hn
  have hnhi : (n : ℚ) < 2 ^ ((Nat.log2 n : ℤ) + 1) := by exact_mod_cast Nat.lt_log2_self
  have hdlo : (2 : ℚ) ^ (Nat.log2 d : ℤ) ≤ d := by exact_mod_cast Nat.log2_self_le hd
  have hdhi : (d : ℚ) < 2 ^ ((Nat.log2 d : ℤ) + 1) := by exact_mod_cast Nat.lt_log2_self
  set k : ℤ := (Nat.log2 n : ℤ) - (Nat.log2 d : ℤ) with hk
  have hup : (n : ℚ) / d < 2 ^ (k + 1) := by
    rw [div_lt_iff₀ hd0]
    calc (n : ℚ) < 2 ^ ((Nat.log2 n : ℤ) + 1) := hnhi
      _ = 2 ^ (k + 1) * 2 ^ (Nat.log2 d : ℤ) := by rw [← zpow_add₀ two_ne_zero]; congr 1; omega
      _ ≤ 2 ^ (k + 1) * d := by gcongr
  have hlow : (2 : ℚ) ^ (k - 1) ≤ (n : ℚ) / d := by
    rw [le_div_iff₀ hd0]
    calc (2 : ℚ) ^ (k - 1) * d ≤ 2 ^ (k - 1) * 2 ^ ((Nat.log2 d : ℤ) + 1) := by gcongr
      _ = 2 ^ (Nat.log2 n : ℤ) := by rw [← zpow_add₀ two_ne_zero]; congr 1; omega
      _ ≤ n := hnlo
  have htest : d * 2 ^ k.toNat ≤ n * 2 ^ (-k).toNat ↔ (2 : ℚ) ^ k ≤ (n : ℚ) / d := by
    have hkq : (2 : ℚ) ^ k = 2 ^ k.toNat / 2 ^ (-k).toNat := by
      simpa using div_mul_zpow_eq 1 1 k |>.symm
    rw [hkq, div_le_div_iff₀ (by positivity) hd0, mul_comm ((2 : ℚ) ^ _)]
    exact_mod_cast Iff.rfl
  have hdef : floorLog2 n d = if d * 2 ^ k.toNat ≤ n * 2 ^ (-k).toNat then k else k - 1 := rfl
  rw [hdef]
  split_ifs with h
  · exact ⟨htest.mp h, hup⟩
  · exact ⟨hlow, by simpa using not_le.mp (mt htest.mpr h)⟩

/-! ## Rounding to the nearest integer, ties to even -/

/-- m is an integer nearest to x, and an even one if x lies halfway between two. -/
structure NearestEven (m : ℤ) (x : ℚ) : Prop where
  near : |(m : ℚ) - x| ≤ 1 / 2
  tie : |(m : ℚ) - x| = 1 / 2 → Even m

theorem roundHalfEven_nearest (a : ℕ) {b : ℕ} (hb : 0 < b) :
    NearestEven (roundHalfEven a b) ((a : ℚ) / b) := by
  have hb0 : (0 : ℚ) < b := by exact_mod_cast hb
  have hsplit : (a : ℚ) / b = (a / b : ℕ) + (a % b : ℕ) / b := by
    rw [div_eq_iff hb0.ne', add_mul, div_mul_cancel₀ _ hb0.ne']
    exact_mod_cast (Nat.div_add_mod' a b).symm
  have hlt : 2 * (a % b) < b ↔ ((a % b : ℕ) : ℚ) / b < 1 / 2 := by
    rw [div_lt_div_iff₀ hb0 two_pos, one_mul, mul_comm]; exact_mod_cast Iff.rfl
  have hgt : b < 2 * (a % b) ↔ 1 / 2 < ((a % b : ℕ) : ℚ) / b := by
    rw [div_lt_div_iff₀ two_pos hb0, one_mul, mul_comm _ (2 : ℚ)]; exact_mod_cast Iff.rfl
  have hnonneg : 0 ≤ ((a % b : ℕ) : ℚ) / b := by positivity
  have hmod : ((a % b : ℕ) : ℚ) / b < 1 := by
    rw [div_lt_one hb0]; exact_mod_cast Nat.mod_lt a hb
  simp only [roundHalfEven, hlt, hgt, hsplit]
  generalize ((a % b : ℕ) : ℚ) / b = f at *
  generalize a / b = m
  split_ifs with h1 h2
  · have hdist : |((m : ℕ) : ℚ) - (m + f)| = f := by
      rw [sub_add_cancel_left, abs_neg, abs_of_nonneg hnonneg]
    exact ⟨hdist.trans_le h1.le, fun h => absurd (hdist.symm.trans h) h1.ne⟩
  · have hdist : |((m + 1 : ℕ) : ℚ) - (m + f)| = 1 - f := by
      rw [abs_of_nonneg] <;> push_cast <;> linarith
    exact ⟨hdist.trans_le (by linarith), fun h => by linarith [hdist.symm.trans h]⟩
  · refine ⟨?_, fun _ => ?_⟩
    · have hf : f = 1 / 2 := le_antisymm (not_lt.mp h2) (not_lt.mp h1)
      rcases Nat.mod_two_eq_zero_or_one m with h | h <;> rw [h, hf, abs_le] <;> push_cast <;>
        constructor <;> linarith
    · exact_mod_cast (Nat.even_iff.mpr (by omega) : Even (m + m % 2))

/-- Rounding does not pass an integer. -/
theorem NearestEven.le {m j : ℤ} {x : ℚ} (hm : NearestEven m x) (h : x ≤ j) : m ≤ j := by
  have h1 := (abs_le.mp hm.near).2
  have h2 : (m : ℚ) < j + 1 := by linarith
  exact Int.lt_add_one_iff.mp (by exact_mod_cast h2)

theorem NearestEven.ge {m j : ℤ} {x : ℚ} (hm : NearestEven m x) (h : j ≤ x) : j ≤ m := by
  have h1 := (abs_le.mp hm.near).1
  have h2 : (j : ℚ) < m + 1 := by linarith
  exact Int.lt_add_one_iff.mp (by exact_mod_cast h2)

/-- On the grid of multiples of u, the nearest-even multiple of u is nearest to x among all y that lie
on the grid or below a grid point that x has reached; at a tie with another y it is even. -/
theorem NearestEven.grid {m : ℤ} {x u y : ℚ} (hu : 0 < u) (hm : NearestEven m (x / u))
    (hy : (∃ j : ℤ, y = j * u) ∨ ∃ j : ℤ, y < j * u ∧ j * u ≤ x) :
    |m * u - x| ≤ |y - x| ∧ (|m * u - x| = |y - x| → y ≠ m * u → Even m) := by
  have hscale : ∀ j : ℤ, |j * u - x| = |(j : ℚ) - x / u| * u := fun j => by
    rw [← abs_of_pos hu, ← abs_mul, abs_of_pos hu, sub_mul, div_mul_cancel₀ _ hu.ne']
  -- Another integer is at least half a unit away.
  have hother : ∀ j : ℤ, j ≠ m → 1 / 2 ≤ |(j : ℚ) - x / u| := fun j hj => by
    have h1 : (1 : ℚ) ≤ |(j : ℚ) - m| := by exact_mod_cast Int.one_le_abs (sub_ne_zero.mpr hj)
    have h2 := abs_sub_le (j : ℚ) (x / u) m
    have h3 := hm.near
    rw [abs_sub_comm] at h3
    linarith
  have hint : ∀ j : ℤ, |m * u - x| ≤ |j * u - x| := fun j => by
    rw [hscale, hscale]
    refine mul_le_mul_of_nonneg_right ?_ hu.le
    rcases eq_or_ne j m with rfl | hj
    · exact le_rfl
    · exact hm.near.trans (hother j hj)
  rcases hy with ⟨j, rfl⟩ | ⟨j, hyj, hjx⟩
  · refine ⟨hint j, fun heq hne => hm.tie ?_⟩
    rw [hscale, hscale, mul_left_inj' hu.ne'] at heq
    exact le_antisymm hm.near (heq ▸ hother j (by rintro rfl; exact hne rfl))
  · have hlt : |m * u - x| < |y - x| := by
      refine (hint j).trans_lt ?_
      rw [abs_of_nonpos (by linarith), abs_of_neg (by linarith)]
      linarith
    exact ⟨hlt.le, fun heq => absurd heq hlt.ne⟩

/-! ## The fields and the value of a pattern (R9) -/

theorem F32.expField_eq (x : F32) : F32.expField x = x.toNat / 2 ^ 23 % 2 ^ 8 := by
  simp [F32.expField, Nat.shiftRight_eq_div_pow]

theorem F32.fracField_eq (x : F32) : F32.fracField x = x.toNat % 2 ^ 23 := by
  simp [F32.fracField]

/-- The integer significand of a pattern, with the hidden bit of a normal one. -/
def F32.significand (x : F32) : ℕ :=
  if F32.expField x = 0 then F32.fracField x else F32.fracField x + 2 ^ 23

/-- The exponent field that counts: a subnormal pattern has that of the smallest normal ones. -/
def F32.exponent (x : F32) : ℕ := max (F32.expField x) 1

theorem F32.finiteVal_eq (x : F32) : F32.finiteVal x =
    (if x.getLsbD 31 then -1 else 1) * (F32.significand x * 2 ^ ((F32.exponent x : ℤ) - 150)) := by
  have h : F32.finiteVal x = if x.getLsbD 31
      then -(F32.significand x * pow2 ((F32.exponent x : ℤ) - 150))
      else F32.significand x * pow2 ((F32.exponent x : ℤ) - 150) := rfl
  rw [h, pow2_eq_zpow]
  split_ifs <;> ring

theorem F32.significand_lt (x : F32) : F32.significand x < 2 ^ 24 := by
  have := F32.fracField_eq x
  unfold F32.significand
  split_ifs <;> omega

theorem F32.one_le_exponent (x : F32) : 1 ≤ F32.exponent x := le_max_right _ _

/-- The value of a pattern of sign p, whose other bits are k * 2^23 + m: the significand m counts in
units of the exponent k, also where m is subnormal (k = 0) and where it carries (m = 2^24). -/
theorem F32.pattern_spec (p : Prop) [Decidable p] {k m : ℕ} (hk : k = 0 ∨ 2 ^ 23 ≤ m)
    (hm : m ≤ 2 ^ 24) (hfin : k * 2 ^ 23 + m < 0x7F800000) (x : F32)
    (hx : x = BitVec.ofNat 32 ((if p then 0x80000000 else 0) + (k * 2 ^ 23 + m))) :
    F32.isFinite x = true ∧ F32.finiteVal x = (if p then -1 else 1) * (m * 2 ^ ((k : ℤ) - 149)) ∧
    (x.getLsbD 0 = false ↔ Even m) := by
  have hnat : x.toNat = (if p then 0x80000000 else 0) + (k * 2 ^ 23 + m) := by
    rw [hx, BitVec.toNat_ofNat]; split_ifs <;> omega
  have hexp : F32.expField x = (k * 2 ^ 23 + m) / 2 ^ 23 := by
    rw [F32.expField_eq, hnat]; split_ifs <;> omega
  have hfrac : F32.fracField x = m % 2 ^ 23 := by
    rw [F32.fracField_eq, hnat]; split_ifs <;> omega
  have hsign : x.getLsbD 31 = decide p := by
    rw [BitVec.getLsbD, hnat, Nat.testBit_eq_decide_div_mod_eq]
    split_ifs with h <;> simp [h] <;> omega
  refine ⟨?_, ?_, ?_⟩
  · simp only [F32.isFinite, bne_iff_ne, hexp]; omega
  · have hmag : (F32.significand x : ℚ) * 2 ^ ((F32.exponent x : ℤ) - 150) = m * 2 ^ ((k : ℤ) - 149) := by
      simp only [F32.significand, F32.exponent, hexp, hfrac]
      rcases lt_or_ge m (2 ^ 23) with hsub | hnorm
      · obtain rfl : k = 0 := hk.resolve_right (by omega)
        rw [if_pos (by omega), Nat.mod_eq_of_lt hsub, max_eq_right (by omega)]
        norm_num
      · rw [if_neg (by omega), max_eq_left (by omega)]
        rcases hm.lt_or_eq with hlt | rfl
        · rw [show (k * 2 ^ 23 + m) / 2 ^ 23 = k + 1 by omega, show m % 2 ^ 23 + 2 ^ 23 = m by omega]
          congr 2
          push_cast
          ring
        · rw [show (k * 2 ^ 23 + 2 ^ 24) / 2 ^ 23 = k + 2 by omega,
            show ((k + 2 : ℕ) : ℤ) - 150 = (k - 149) + 1 by push_cast; ring, zpow_add_one₀ two_ne_zero]
          norm_num
          ring
    rw [F32.finiteVal_eq, hmag, hsign]
    simp
  · rw [BitVec.getLsbD, hnat, Nat.testBit_eq_decide_div_mod_eq, Nat.even_iff]
    split_ifs <;> simp <;> omega

/-- Every value is a multiple of the unit of exponent k, or lies below the binade of k. -/
theorem F32.finiteVal_on_grid (y : F32) (k : ℕ) :
    (∃ j : ℤ, F32.finiteVal y = j * 2 ^ ((k : ℤ) - 149)) ∨
      (k ≠ 0 ∧ |F32.finiteVal y| < 2 ^ ((k : ℤ) - 126)) := by
  have hexp := F32.one_le_exponent y
  rw [F32.finiteVal_eq]
  rcases le_or_gt (k + 1) (F32.exponent y) with hle | hgt
  · left
    obtain ⟨i, hi⟩ : ∃ i : ℕ, (F32.exponent y : ℤ) - 150 = i + (k - 149) :=
      ⟨F32.exponent y - 1 - k, by omega⟩
    refine ⟨(if y.getLsbD 31 then -1 else 1) * (F32.significand y * 2 ^ i), ?_⟩
    rw [hi, zpow_add₀ two_ne_zero, zpow_natCast]
    push_cast
    ring
  · right
    refine ⟨by omega, ?_⟩
    have hsign : |(if y.getLsbD 31 then -1 else 1 : ℚ)| = 1 := by split_ifs <;> simp
    rw [abs_mul, hsign, one_mul, abs_of_nonneg (by positivity)]
    calc (F32.significand y : ℚ) * 2 ^ ((F32.exponent y : ℤ) - 150)
        < 2 ^ (24 : ℤ) * 2 ^ ((F32.exponent y : ℤ) - 150) := by
          gcongr
          exact_mod_cast F32.significand_lt y
      _ = 2 ^ ((F32.exponent y : ℤ) - 126) := by rw [← zpow_add₀ two_ne_zero]; congr 1; ring
      _ ≤ 2 ^ ((k : ℤ) - 126) := zpow_le_zpow_right₀ one_le_two (by omega)

/-! ## toF32 (R9) -/

/-- m units of exponent k are x rounded, and (k, m) make the pattern of a finite value (R9): m has its
leading bit unless k is subnormal, and above the subnormals x has reached the binade of k. -/
structure F32.Rounds (k m : ℕ) (x : ℚ) : Prop where
  nearest : NearestEven m (x / 2 ^ ((k : ℤ) - 149))
  binade : k = 0 ∨ (2 : ℚ) ^ ((k : ℤ) - 126) ≤ x
  normal : k = 0 ∨ 2 ^ 23 ≤ m
  carry : m ≤ 2 ^ 24
  finite : k * 2 ^ 23 + m < 0x7F800000

/-- Rounding a value of the binade of k, at most the largest finite value, gives a finite pattern. -/
theorem F32.rounds_of_nearest {k m : ℕ} {x : ℚ} (hnear : NearestEven m (x / 2 ^ ((k : ℤ) - 149)))
    (hlo : k = 0 ∨ (2 : ℚ) ^ ((k : ℤ) - 126) ≤ x) (hhi : x < 2 ^ ((k : ℤ) - 125))
    (hmax : x ≤ (2 ^ 24 - 1) * 2 ^ 104) : F32.Rounds k m x := by
  have hunit : (0 : ℚ) < 2 ^ ((k : ℤ) - 149) := by positivity
  have hnormal : k = 0 ∨ 2 ^ 23 ≤ m := hlo.imp_right fun h => by
    have h23 : ((2 ^ 23 : ℕ) : ℤ) ≤ m := hnear.ge (by
      rwa [le_div_iff₀ hunit, natPow_mul_zpow, show (k : ℤ) - 149 + (23 : ℕ) = k - 126 by push_cast; ring])
    exact_mod_cast h23
  have hcarry : m ≤ 2 ^ 24 := by
    have h24 : (m : ℤ) ≤ (2 ^ 24 : ℕ) := hnear.le (by
      rw [div_le_iff₀ hunit, natPow_mul_zpow, show (k : ℤ) - 149 + (24 : ℕ) = k - 125 by push_cast; ring]
      exact hhi.le)
    exact_mod_cast h24
  have hk253 : k ≤ 253 := by
    rcases hlo with h0 | h
    · omega
    · have hlt : (2 : ℚ) ^ ((k : ℤ) - 126) < 2 ^ (128 : ℤ) := (h.trans hmax).trans_lt (by norm_num)
      have := (zpow_lt_zpow_iff_right₀ one_lt_two).mp hlt
      omega
  -- In the last binade the bound on x keeps the significand from carrying to infinity.
  have htop : k = 253 → m ≤ 2 ^ 24 - 1 := fun h => by
    have h1 : (m : ℤ) ≤ (2 ^ 24 - 1 : ℕ) := hnear.le (by
      rw [div_le_iff₀ hunit, h]
      refine hmax.trans (le_of_eq ?_)
      norm_num)
    exact_mod_cast h1
  exact ⟨hnear, hlo, hnormal, hcarry, by omega⟩

/-- The pattern of a positive n / d in the finite range. -/
theorem F32.magBits_rounds {n d : ℕ} (hn : n ≠ 0) (hd : d ≠ 0)
    (hmax : (n : ℚ) / d ≤ (2 ^ 24 - 1) * 2 ^ 104) :
    ∃ k m : ℕ, F32.magBits n d = k * 2 ^ 23 + m ∧ F32.Rounds k m ((n : ℚ) / d) := by
  obtain ⟨hlo, hhi⟩ := floorLog2_spec hn hd
  obtain ⟨e, he⟩ : ∃ e, e = max (floorLog2 n d) (-126) := ⟨_, rfl⟩
  obtain ⟨k, hk⟩ : ∃ k : ℕ, e = k - 126 := ⟨(e + 126).toNat, by omega⟩
  obtain ⟨m, hm⟩ : ∃ m, m = roundHalfEven (n * 2 ^ (23 - e).toNat) (d * 2 ^ (e - 23).toNat) := ⟨_, rfl⟩
  have hnear : NearestEven m ((n : ℚ) / d / 2 ^ ((k : ℤ) - 149)) := by
    have h := roundHalfEven_nearest (n * 2 ^ (23 - e).toNat) (b := d * 2 ^ (e - 23).toNat) (by positivity)
    have hscale := div_mul_zpow_eq n d (23 - e)
    rw [neg_sub] at hscale
    rwa [hscale, ← hm, show 23 - e = -((k : ℤ) - 149) by omega, zpow_neg, ← div_eq_mul_inv] at h
  have hbinade : k = 0 ∨ (2 : ℚ) ^ ((k : ℤ) - 126) ≤ n / d := by
    rcases Nat.eq_zero_or_pos k with h0 | h0
    · exact .inl h0
    · right; rwa [show (k : ℤ) - 126 = floorLog2 n d by omega]
  have hround : F32.Rounds k m ((n : ℚ) / d) := F32.rounds_of_nearest hnear hbinade
    (hhi.trans_le (zpow_le_zpow_right₀ one_le_two (by omega))) hmax
  refine ⟨k, m, ?_, hround⟩
  simp only [F32.magBits, if_neg hn, ← he, ← hm, show (e + 126).toNat = k by omega,
    min_eq_left hround.finite.le]

/-- No finite value is nearer to x ≥ 0 than x rounded, and one as near leaves an even significand; σ is
a sign, so that this speaks of values of both signs. -/
theorem F32.Rounds.nearest_value {k m : ℕ} {x : ℚ} (h : F32.Rounds k m x) (y : F32) {σ : ℤ}
    (hσ : |σ| = 1) :
    |m * 2 ^ ((k : ℤ) - 149) - x| ≤ |σ * F32.finiteVal y - x| ∧
    (|m * 2 ^ ((k : ℤ) - 149) - x| = |σ * F32.finiteVal y - x| →
      σ * F32.finiteVal y ≠ m * 2 ^ ((k : ℤ) - 149) → Even m) := by
  have hgrid : (∃ j : ℤ, σ * F32.finiteVal y = j * 2 ^ ((k : ℤ) - 149)) ∨
      ∃ j : ℤ, σ * F32.finiteVal y < j * 2 ^ ((k : ℤ) - 149) ∧ j * 2 ^ ((k : ℤ) - 149) ≤ x := by
    refine (F32.finiteVal_on_grid y k).imp ?_ ?_
    · rintro ⟨j, hj⟩
      exact ⟨σ * j, by rw [hj]; push_cast; ring⟩
    · rintro ⟨hk, hy⟩
      have hunit : (((2 ^ 23 : ℕ) : ℤ) : ℚ) * 2 ^ ((k : ℤ) - 149) = 2 ^ ((k : ℤ) - 126) :=
        (natPow_mul_zpow 23 _).trans (by congr 1; push_cast; ring)
      have habs : |(σ : ℚ) * F32.finiteVal y| = |F32.finiteVal y| := by
        rw [abs_mul, ← Int.cast_abs, hσ, Int.cast_one, one_mul]
      exact ⟨_, hunit ▸ (le_abs_self _).trans_lt (habs ▸ hy), hunit ▸ h.binade.resolve_left hk⟩
  have hnear := h.nearest.grid (by positivity) hgrid
  exact_mod_cast hnear

theorem finiteVal_toF32_zero : F32.finiteVal (toF32 0) = 0 := by
  have h : F32.significand (toF32 0) = 0 := by decide
  rw [F32.finiteVal_eq, h]
  simp

/-- toF32 of a non-zero q in the finite range is |q| rounded, with the sign of q. -/
theorem toF32_rounds {q : ℚ} (hq0 : q ≠ 0) (hq : |q| ≤ (2 ^ 24 - 1) * 2 ^ 104) :
    ∃ k m : ℕ, F32.Rounds k m |q| ∧ F32.isFinite (toF32 q) = true ∧
      F32.finiteVal (toF32 q) = (if q < 0 then -1 else 1) * (m * 2 ^ ((k : ℤ) - 149)) ∧
      ((toF32 q).getLsbD 0 = false ↔ Even m) := by
  have habs : |q| = (q.num.natAbs : ℚ) / q.den := by
    rw [Rat.abs_def, Rat.divInt_eq_div]
    simp
  obtain ⟨k, m, hbits, hround⟩ :=
    F32.magBits_rounds (n := q.num.natAbs) (d := q.den) (by simpa using hq0) q.den_nz (habs ▸ hq)
  exact ⟨k, m, habs ▸ hround, F32.pattern_spec (q < 0) hround.normal hround.carry hround.finite (toF32 q)
    (by rw [toF32, hbits])⟩

/-- Settles O34: toF32 q is the nearest-even multiple of the unit of its exponent, and every finite value
lies on that grid or below the binade of q. -/
theorem toF32IsNearest : Obligations.ToF32IsNearest := by
  unfold Obligations.ToF32IsNearest
  intro q hq
  rcases eq_or_ne q 0 with rfl | hq0
  · exact ⟨by decide, fun y _ => ⟨by simp [finiteVal_toF32_zero], fun _ _ => by decide⟩⟩
  obtain ⟨k, m, hround, hfinite, hval, hlow⟩ := toF32_rounds hq0 hq
  refine ⟨hfinite, fun y _ => ?_⟩
  -- The sign σ of q mirrors distances from q to distances from |q|.
  obtain ⟨σ, hσ⟩ : ∃ σ : ℤ, σ = if q < 0 then -1 else 1 := ⟨_, rfl⟩
  have hσ1 : |σ| = 1 := by rw [hσ]; split_ifs <;> rfl
  have hσq : (σ : ℚ) = if q < 0 then -1 else 1 := by rw [hσ]; split_ifs <;> simp
  have hmirror : ∀ a : ℚ, |a - q| = |σ * a - (|q|)| := fun a => by
    rw [hσq]
    split_ifs with h
    · rw [abs_of_neg h, ← abs_neg]; congr 1; ring
    · rw [abs_of_nonneg (not_lt.mp h), one_mul]
  have hσval : σ * F32.finiteVal (toF32 q) = m * 2 ^ ((k : ℤ) - 149) := by
    rw [hval, hσq]; split_ifs <;> ring
  obtain ⟨hnear, htie⟩ := hround.nearest_value y hσ1
  rw [hmirror, hmirror (F32.finiteVal y), hσval]
  refine ⟨hnear, fun heq hne => hlow.mpr (htie heq fun h => hne ?_)⟩
  have hσ0 : (σ : ℚ) ≠ 0 := by rw [hσq]; split_ifs <;> norm_num
  exact mul_left_cancel₀ hσ0 (h.trans hσval.symm)

end Sys2Proof.Machine
end

section
/-! SUPPORT. Well-formed CCMAPs and one step of the machine (spec/00_scope.md R2, R7, spec/43_host.md R230). -/

namespace Sys2Proof

/-! ## Well-formed CCMAPs (R7) -/

/-- R7, with the single controller numbers as a list. -/
theorem CCMap.wellFormed_iff (m : CCMap) : m.wellFormed = true ↔
    m.singles.Nodup ∧ (∀ k ∈ m.singles, k ≤ 127 ∧ ¬ (m.swenvBase ≤ k ∧ k ≤ m.swenvBase + 12)) ∧
      m.swenvBase + 12 ≤ 127 := by
  have hall : (m.singles.all (fun k => decide (k ≤ 127)) = true ∧
      m.singles.all (fun k => !m.inSwenv k) = true) ↔
      ∀ k ∈ m.singles, k ≤ 127 ∧ ¬ (m.swenvBase ≤ k ∧ k ≤ m.swenvBase + 12) := by
    simp only [List.all_eq_true, decide_eq_true_eq, CCMap.inSwenv, Bool.not_eq_true',
      Bool.and_eq_false_iff, decide_eq_false_iff_not, ← not_and_or, ← forall_and]
  simp only [CCMap.wellFormed, Bool.and_eq_true, decide_eq_true_eq, and_assoc, ← hall]

end Sys2Proof

namespace Sys2Proof.Machine

open Sys2Proof

/-! ## One step (R2, R7, R230) -/

/-- A step takes the first command issued off the list, decodes it and executes it. -/
theorem step_eq_exec {s : State} {r : HostRecord} {rest : List HostRecord} {i : Instr}
    (hwf : s.cfg.ccmap.wellFormed = true) (hmark : s.refused = none) (hpend : s.pending = r :: rest)
    (hdec : decodeRecord r = .ok i) : step s = exec i (s.setPending rest) := by
  simp [step, hwf, hmark, hpend, hdec]

theorem step_of_ill_formed {s : State} (h : s.cfg.ccmap.wellFormed = false) :
    step s = .refused .badCcmap := by
  simp [step, h]

/-- Everything a step with a next state can be: idle, or the first command executed. -/
theorem step_next_cases {s t : State} (h : step s = .next t) :
    t = s ∨ ∃ i rest, exec i (s.setPending rest) = .next t := by
  unfold step at h
  split at h
  · cases h
  · split at h
    · cases h
    · split at h
      · cases h
        exact .inl rfl
      · split at h
        · cases h
        · exact .inr ⟨_, _, h⟩

/-- Settles O8. -/
theorem stepRunsDecodedCommand : Obligations.StepRunsDecodedCommand := by
  unfold Obligations.StepRunsDecodedCommand
  intro s r rest i hwf hmark hpend hdec
  exact step_eq_exec hwf hmark hpend hdec

/-- Settles O11. -/
theorem illFormedCcmapIsRefused : Obligations.IllFormedCcmapIsRefused := by
  unfold Obligations.IllFormedCcmapIsRefused
  exact ⟨CCMap.wellFormed_iff, fun s h => step_of_ill_formed h⟩

end Sys2Proof.Machine
end

section
/-! SUPPORT. What every command does to the configuration, the trace and the replies (spec/00_scope.md R6, R11,
spec/20_memory.md R70): events, a RENDER, the host commands, and a step. -/

namespace Sys2Proof.Machine

open Sys2Proof

/-! ## The trace relation (R11, R70) -/

theorem State.emitted_active {s : State} (h : s.e.active = true) (cmds : List EngineCmd) :
    s.emitted cmds = s.trace ++ cmds := by simp [State.emitted, h]

theorem State.emitted_inactive {s : State} (h : s.e.active = false) (cmds : List EngineCmd) :
    s.emitted cmds = s.trace := by simp [State.emitted, h]

/-- t follows s by emissions: the mode and the configuration are as they were, the trace is extended by
what `emit` lets through (R11), and replies may have been handed out. -/
structure Emits (s t : State) : Prop where
  cfg : t.cfg = s.cfg
  active : t.e.active = s.e.active
  trace : ∃ cmds, t.trace = s.emitted cmds
  replies : s.replies <+: t.replies

/-- An operation that touches none of the four elements follows by no emission. -/
theorem Emits.of_eq {s t : State} (hcfg : t.cfg = s.cfg) (hactive : t.e.active = s.e.active)
    (htrace : t.trace = s.trace) (hreplies : t.replies = s.replies) : Emits s t :=
  ⟨hcfg, hactive, ⟨[], by simp [State.emitted, htrace]⟩, by rw [hreplies]⟩

theorem Emits.refl (s : State) : Emits s s := .of_eq rfl rfl rfl rfl

theorem Emits.trans {s t u : State} (h : Emits s t) (k : Emits t u) : Emits s u := by
  obtain ⟨xs, hxs⟩ := h.trace
  obtain ⟨ys, hys⟩ := k.trace
  refine ⟨k.cfg.trans h.cfg, k.active.trans h.active, ⟨xs ++ ys, ?_⟩, h.replies.trans k.replies⟩
  rw [hys]
  cases hs : s.e.active with
  | true =>
    rw [State.emitted_active (h.active.trans hs), hxs, State.emitted_active hs,
      State.emitted_active hs, List.append_assoc]
  | false =>
    rw [State.emitted_inactive (h.active.trans hs), hxs, State.emitted_inactive hs,
      State.emitted_inactive hs]

theorem Emits.grows {s t : State} (h : Emits s t) : s.trace <+: t.trace := by
  obtain ⟨cmds, hcmds⟩ := h.trace
  rw [hcmds, State.emitted]
  split
  · exact List.prefix_append _ _
  · exact List.prefix_rfl

theorem Emits.silent {s t : State} (h : Emits s t) (hs : s.e.active = false) : t.trace = s.trace := by
  obtain ⟨cmds, hcmds⟩ := h.trace
  rw [hcmds, State.emitted_inactive hs]

theorem emit_emits (cmd : EngineCmd) (s : State) : Emits s (emit cmd s) :=
  ⟨emit_cfg cmd s, by rw [emit_e], ⟨[cmd], emit_trace cmd s⟩, by rw [emit_replies]⟩

/-- Emitting after an operation that follows by emissions. -/
theorem Emits.emit {s t : State} (h : Emits s t) (cmd : EngineCmd) : Emits s (emit cmd t) :=
  h.trans (emit_emits cmd t)

/-- Writing a channel's runtime after an operation that follows by emissions. -/
theorem Emits.setRt {s t : State} (h : Emits s t) (c : Chan) (r : Runtime) : Emits s (t.setRt c r) :=
  h.trans (.of_eq rfl rfl rfl rfl)

theorem pushReply_emits (r : Reply) (s : State) : Emits s (s.pushReply r) :=
  ⟨rfl, rfl, ⟨[], by simp [State.emitted]⟩, List.prefix_append _ _⟩

/-! ## Events follow by emissions -/

theorem releaseVoice_emits (c : Chan) (s : State) : Emits s (releaseVoice c s) := by
  unfold releaseVoice
  split
  · exact .refl s
  · have hperturb : ∀ u : State, Emits u (perturbShape u) := fun u => by
      unfold perturbShape
      split
      · exact .refl u
      · exact emit_emits _ u
    exact ((emit_emits _ s).trans (hperturb _)).trans (.of_eq rfl rfl rfl rfl)

theorem startVoice_emits (c : Chan) (key : BitVec 7) (s : State) : Emits s (startVoice c key s) := by
  unfold startVoice
  split
  · exact .refl s
  · exact ((((emit_emits _ s).emit _).setRt c _).emit _).setRt c _

/-- Every event meaning follows by emissions (R160). -/
theorem applyEvent_emits (i : Instr) (s : State) : Emits s (stateAfter (applyEvent i s) s) := by
  cases i with
  | noteOn c key _ => exact startVoice_emits c key s
  | noteOff c _ _ | noteOnV0 c _ => exact releaseVoice_emits c s
  | programChange c pv _ =>
    refine Emits.emit (Emits.emit ?_ _) _
    exact .of_eq rfl rfl rfl rfl
  | ccBank | ccVolume | ccPan | ccEshape | ccEperH | ccEperM | ccEperL | ccDcReset =>
    refine Emits.emit ?_ _
    exact .of_eq rfl rfl rfl rfl
  | _ => exact .of_eq rfl rfl rfl rfl

theorem applyWord_emits (w : EventWord) (s : State) : Emits s (applyWord w s) :=
  applyEvent_emits _ s

/-! ## A RENDER follows by emissions -/

/-- Rendering a range emits nothing while inactive, because the range is skipped (R205). -/
theorem renderRange_emits (tBlk : Rat) (numOut a b : Nat) (r : Rendering) :
    Emits r.st (renderRange tBlk numOut a b r).carried.st := by
  have hframe := renderRange_frame tBlk numOut a b r
  cases hactive : r.st.e.active with
  | true =>
    obtain ⟨cmds, hcmds⟩ := hframe.grows
    refine ⟨hframe.cfg, by rw [hframe.e], ⟨cmds, ?_⟩, by rw [hframe.rest]⟩
    rw [State.emitted_active hactive, hcmds]
  | false =>
    have hskip : r.st.skips = true := by simp [State.skips, hactive]
    have hsame : renderRange tBlk numOut a b r = .done r := by simp [renderRange, hskip]
    rw [hsame]
    exact .refl r.st

theorem advanceTo_emits (tBlk : Rat) (blockLen numOut off : Nat) (r : Rendering) :
    Emits r.st (advanceTo tBlk blockLen numOut off r).carried.st := by
  unfold advanceTo
  split
  · exact .refl r.st
  · exact Effect.andThen_carried (fun r' : Rendering => Emits r.st r'.st) (renderRange_emits ..) (fun _ h => h)

theorem eventLoop_emits (tBlk : Rat) (blockLen numOut : Nat) (events : List TimedEvent) :
    ∀ r : Rendering, Emits r.st (eventLoop tBlk blockLen numOut events r).carried.st := by
  induction events with
  | nil => intro r; exact .refl r.st
  | cons ev rest ih =>
    intro r
    exact Effect.andThen_carried (fun r' : Rendering => Emits r.st r'.st) (advanceTo_emits ..)
      (fun r' h =>
        (h.trans (applyWord_emits ev.1 r'.st)).trans (ih { r' with st := applyWord ev.1 r'.st }))

theorem renderEvents_emits (tBlk : Rat) (blockLen numOut : Nat) (events : List TimedEvent)
    (r : Rendering) : Emits r.st (renderEvents tBlk blockLen numOut events r).carried.st := by
  refine Effect.andThen_carried (fun r' : Rendering => Emits r.st r'.st) (eventLoop_emits ..) (fun r' h => ?_)
  exact Effect.andThen_carried (fun u : Rendering => Emits r.st u.st)
    (h.trans (renderRange_emits ..)) (fun _ h => h)

theorem advanceElapsed_emits (blockLen : Nat) (s : State) : Emits s (advanceElapsed blockLen s) := by
  unfold advanceElapsed
  split
  · exact .of_eq rfl rfl rfl rfl
  · exact .refl s

theorem finishRender_emits (blockLen : Nat) (x : Effect Rendering) :
    Emits x.carried.st (finishRender blockLen x) := by
  cases x with
  | done r => exact (advanceElapsed_emits blockLen r.st).trans (pushReply_emits _ _)
  | raised why r => exact (pushReply_emits _ r.st).trans (.of_eq rfl rfl rfl rfl)

theorem renderBlock_emits (blockLen numOut : Nat) (events : List TimedEvent) (prior : Buffer)
    (s : State) : Emits s (renderBlock blockLen numOut events prior s) := by
  unfold renderBlock
  split
  · exact .of_eq rfl rfl rfl rfl
  · split
    · exact .of_eq rfl rfl rfl rfl
    · exact (renderEvents_emits (r := { st := s, cursor := 0, out := prior }) ..).trans (finishRender_emits ..)

/-! ## Host commands -/

theorem finish_emits (x : Effect State) : Emits x.carried x.finish := by
  cases x with
  | done s => exact .refl s
  | raised why s => exact .of_eq rfl rfl rfl rfl

theorem fieldWrite_emits (f : Field) (w : Word32) (s : State) : Emits s (f.write w s) := by
  rw [Field.write_frame]
  exact .of_eq rfl rfl rfl rfl

theorem writeParam_emits (f : Field) (value : Word32) (s : State) :
    Emits s (writeParam f value s).carried := by
  have hwrite := fieldWrite_emits f value s
  cases f with
  | mixer | volume | envPeriod | envShape | noisePeriod => exact hwrite.emit _
  | numPoints | time | ratio => exact hwrite
  | clockRate =>
    simp only [writeParam]
    split
    · exact .refl s
    · exact hwrite
  | pan c =>
    simp only [writeParam]
    split
    · split
      · exact hwrite.emit _
      · exact hwrite
    · exact hwrite

theorem paramBlock_emits (id : BitVec 8) (value : Word32) (s : State) :
    Emits s (paramBlock id value s).carried := by
  unfold paramBlock
  split
  · exact .refl s
  · exact writeParam_emits ..

theorem saveState_emits (layout : Nat) (s : State) : Emits s (saveState layout s).carried := by
  unfold saveState
  split
  · exact pushReply_emits _ s
  · exact pushReply_emits _ s
  · exact .refl s

theorem loadFields_emits (len : Nat) (blob : List Byte) (s : State) :
    Emits s (loadFields len blob s) := by
  have hfold : ∀ (fs : List Field) (t : State), Emits s t →
      Emits s (fs.foldl (fun t f => f.write (memRead32 blob f.offset) t) t) := fun fs => by
    induction fs with
    | nil => exact fun _ h => h
    | cons f rest ih => exact fun t h => ih _ (h.trans (fieldWrite_emits f _ t))
  exact hfold _ s (.refl s)

theorem loadState_emits (blob : List Byte) (s : State) : Emits s (loadState blob s).carried := by
  have hform : ∀ (c : Chan) (t : State), Emits t (defaultForm c t) := fun _ _ => .of_eq rfl rfl rfl rfl
  have hsetV : ∀ t : State, Emits t (t.setV .loaded) := fun _ => .of_eq rfl rfl rfl rfl
  unfold loadState
  split
  · exact .refl s
  · split
    · exact .of_eq rfl rfl rfl rfl
    · split
      · have hfields := loadFields_emits Config.snapLegacy blob s
        exact (((hfields.trans (hform .ch0 _)).trans (hform .ch1 _)).trans (hform .ch2 _)).trans (hsetV _)
      · exact (loadFields_emits Config.snapFull blob s).trans (hsetV _)

theorem restoreChannel_emits (c : Chan) (s : State) : Emits s (restoreChannel c s).carried := by
  simp only [restoreChannel]
  split
  · exact ((emit_emits _ s).emit _).emit _
  · exact (emit_emits _ s).emit _

theorem engineRestore_emits (s : State) : Emits s (engineRestore s).carried := by
  refine Effect.andThen_carried (Emits s) ?_ (fun t h => (h.emit _).emit _)
  exact Effect.forEach_carried (Emits s) (fun c t h => h.trans (restoreChannel_emits c t)) _ _
    (emit_emits _ s)

/-! ## Every command -/

/-- What a mode switch, a reset of the runtime or a store leaves alone: nothing is emitted or replied. -/
structure Quiet (s t : State) : Prop where
  cfg : t.cfg = s.cfg
  trace : t.trace = s.trace
  replies : t.replies = s.replies

theorem configureBlock_emits (sampleRate : Nat) (s : State) :
    ∃ u, Quiet s u ∧ Emits u (configureBlock sampleRate s).carried := by
  have hdefaults : Quiet s (defaultIfUninitialized s) := by
    unfold defaultIfUninitialized
    split <;> exact ⟨rfl, rfl, rfl⟩
  simp only [configureBlock]
  split_ifs
  · exact ⟨s, ⟨rfl, rfl, rfl⟩, .refl s⟩
  · exact ⟨s, ⟨rfl, rfl, rfl⟩, .refl s⟩
  · exact ⟨_, hdefaults, .refl _⟩
  · exact ⟨(runtimeReset (defaultIfUninitialized s)).activate sampleRate,
      ⟨hdefaults.cfg, hdefaults.trace, hdefaults.replies⟩, engineRestore_emits _⟩

theorem deconfigureBlock_quiet (s : State) : Quiet s (deconfigureBlock s) := by
  unfold deconfigureBlock
  split <;> exact ⟨rfl, rfl, rfl⟩

/-- The meaning of an event outcome is its application inside a RENDER (R203). -/
theorem exec_eq_applyEvent {i : Instr} (h : i.isEvent = true) (s : State) : exec i s = applyEvent i s := by
  cases i with
  | configure | deconfigure | render | paramWrite | stateSave | stateLoad | badOp => cases h
  | _ => rfl

/-- Every command follows by emissions, after a change of mode that neither emits nor replies. -/
theorem exec_emits {i : Instr} {s t : State} (h : exec i s = .next t) : ∃ u, Quiet s u ∧ Emits u t := by
  have hsame : Quiet s s := ⟨rfl, rfl, rfl⟩
  cases hev : i.isEvent with
  | true =>
    have hnext := applyEvent_emits i s
    rw [← exec_eq_applyEvent hev, h] at hnext
    exact ⟨s, hsame, hnext⟩
  | false =>
    cases i with
    | configure sr =>
      cases h
      obtain ⟨u, hquiet, hu⟩ := configureBlock_emits sr s
      exact ⟨u, hquiet, hu.trans (finish_emits _)⟩
    | deconfigure => cases h; exact ⟨_, deconfigureBlock_quiet s, .refl _⟩
    | render n numOut events prior => cases h; exact ⟨s, hsame, renderBlock_emits n numOut events prior s⟩
    | paramWrite id value =>
      cases h; exact ⟨s, hsame, (paramBlock_emits id value s).trans (finish_emits _)⟩
    | stateSave layout => cases h; exact ⟨s, hsame, (saveState_emits layout s).trans (finish_emits _)⟩
    | stateLoad blob => cases h; exact ⟨s, hsame, (loadState_emits blob s).trans (finish_emits _)⟩
    | badOp op => cases h; exact ⟨s, hsame, .of_eq rfl rfl rfl rfl⟩
    | _ => cases hev

/-- Settles O16: an idle step changes nothing, and a command follows by emissions and replies. -/
theorem traceOnlyGrows : Obligations.TraceOnlyGrows := by
  unfold Obligations.TraceOnlyGrows
  intro s t h
  rcases step_next_cases h with rfl | ⟨i, rest, hexec⟩
  · exact ⟨rfl, List.prefix_rfl, List.prefix_rfl⟩
  · obtain ⟨u, hquiet, hu⟩ := exec_emits hexec
    exact ⟨hu.cfg.trans hquiet.cfg, hquiet.trace ▸ hu.grows, hquiet.replies ▸ hu.replies⟩

/-- Settles O17: a command that ends inactive was inactive from its change of mode on, where nothing is
emitted. -/
theorem inactiveBlockEmitsNothing : Obligations.InactiveBlockEmitsNothing := by
  unfold Obligations.InactiveBlockEmitsNothing
  intro i s t _ hexec ht
  obtain ⟨u, hquiet, hu⟩ := exec_emits hexec
  have hinactive : u.e.active = false := hu.active.symm.trans ht
  exact (hu.silent hinactive).trans hquiet.trace

end Sys2Proof.Machine
end

section
/-! SUPPORT. A RENDER does not see the engine's answers (spec/00_scope.md R13, spec/10_state.md R55): the
states of two runs that differ in the answer counter and the replies stay alike. -/

namespace Sys2Proof.Machine

open Sys2Proof

/-! ## The state with other answers -/

/-- s with another answer counter and other replies. -/
def State.withAnswers (s : State) (k : Nat) (rs : List Reply) : State :=
  { s with answerIndex := k, replies := rs }

/-- t is s but for the answer counter and the replies. -/
def State.Alike (s t : State) : Prop := ∃ k rs, t = s.withAnswers k rs

theorem State.Alike.trace {s t : State} (h : s.Alike t) : s.trace = t.trace := by
  obtain ⟨k, rs, rfl⟩ := h
  rfl

theorem State.Alike.stored {s t : State} (h : s.Alike t) : s.stored = t.stored := by
  obtain ⟨k, rs, rfl⟩ := h
  rfl

theorem emit_withAnswers (cmd : EngineCmd) (s : State) (k : Nat) (rs : List Reply) :
    emit cmd (s.withAnswers k rs) = (emit cmd s).withAnswers k rs := by
  rw [emit_eq, emit_eq]
  rfl

theorem State.Alike.emit {s t : State} (h : s.Alike t) (cmd : EngineCmd) :
    (emit cmd s).Alike (emit cmd t) := by
  obtain ⟨k, rs, rfl⟩ := h
  exact ⟨k, rs, emit_withAnswers cmd s k rs⟩

/-! ## Events -/

theorem perturbShape_withAnswers (s : State) (k : Nat) (rs : List Reply) :
    perturbShape (s.withAnswers k rs) = (perturbShape s).withAnswers k rs := by
  have hcfg : (s.withAnswers k rs).cfg = s.cfg := rfl
  unfold perturbShape
  rw [hcfg]
  split
  · rfl
  · exact emit_withAnswers ..

theorem releaseVoice_withAnswers (c : Chan) (s : State) (k : Nat) (rs : List Reply) :
    releaseVoice c (s.withAnswers k rs) = (releaseVoice c s).withAnswers k rs := by
  have hnote : (s.withAnswers k rs).noteOn c = s.noteOn c := rfl
  unfold releaseVoice
  rw [hnote, emit_withAnswers, perturbShape_withAnswers]
  split <;> rfl

theorem startVoice_withAnswers (c : Chan) (key : BitVec 7) (s : State) (k : Nat) (rs : List Reply) :
    startVoice c key (s.withAnswers k rs) = (startVoice c key s).withAnswers k rs := by
  have hnote : (s.withAnswers k rs).noteOn c = s.noteOn c := rfl
  simp only [startVoice, hnote, emitMixer, emit_eq]
  split <;> rfl

/-- No event rule reads an answer or a reply (R160). -/
theorem applyEvent_alike (i : Instr) (s : State) (k : Nat) (rs : List Reply) :
    (stateAfter (applyEvent i s) s).Alike
      (stateAfter (applyEvent i (s.withAnswers k rs)) (s.withAnswers k rs)) := by
  cases i with
  | noteOn c key _ => exact ⟨k, rs, startVoice_withAnswers c key s k rs⟩
  | noteOff c _ _ | noteOnV0 c _ => exact ⟨k, rs, releaseVoice_withAnswers c s k rs⟩
  | programChange c pv _ =>
    refine State.Alike.emit (State.Alike.emit ?_ _) _
    exact ⟨k, rs, rfl⟩
  | ccBank | ccVolume | ccPan | ccEshape | ccEperH | ccEperM | ccEperL | ccDcReset =>
    refine State.Alike.emit ?_ _
    exact ⟨k, rs, rfl⟩
  | _ => exact ⟨k, rs, rfl⟩

theorem applyWord_alike (w : EventWord) {s t : State} (h : s.Alike t) :
    (applyWord w s).Alike (applyWord w t) := by
  obtain ⟨k, rs, rfl⟩ := h
  exact applyEvent_alike (decodeEvent s.cfg.ccmap w) s k rs

/-! ## Sequences -/

/-- Two sequences end alike: both done or both refused, for the same reason, in related results. -/
inductive Effect.Alike {α : Type} (R : α → α → Prop) : Effect α → Effect α → Prop where
  | done {a b : α} (h : R a b) : Effect.Alike R (.done a) (.done b)
  | raised (why : Reason) {a b : α} (h : R a b) : Effect.Alike R (.raised why a) (.raised why b)

theorem Effect.Alike.andThen {α : Type} {R : α → α → Prop} {x y : Effect α} {f g : α → Effect α}
    (h : Effect.Alike R x y) (hfg : ∀ a b, R a b → Effect.Alike R (f a) (g b)) :
    Effect.Alike R (x.andThen f) (y.andThen g) := by
  cases h with
  | done hab => exact hfg _ _ hab
  | raised why hab => exact .raised why hab

theorem Effect.Alike.forEach {α β : Type} {R : α → α → Prop} {f : β → α → Effect α}
    (hf : ∀ c a b, R a b → Effect.Alike R (f c a) (f c b)) (cs : List β) :
    ∀ a b, R a b → Effect.Alike R (Effect.forEach f cs a) (Effect.forEach f cs b) := by
  induction cs with
  | nil => intro a b h; exact .done h
  | cons c rest ih => intro a b h; exact (hf c a b h).andThen ih

/-! ## Samples -/

theorem updateVolume_withAnswers (c : Chan) (v : Nat) (s : State) (k : Nat) (rs : List Reply) :
    updateVolume c v (s.withAnswers k rs) = (updateVolume c v s).withAnswers k rs := by
  have hrt : (s.withAnswers k rs).rt = s.rt := rfl
  unfold updateVolume
  rw [hrt, emit_withAnswers]
  split <;> rfl

theorem strideChannel_alike (t : Rat) (c : Chan) (a b : State) (h : a.Alike b) :
    Effect.Alike State.Alike (strideChannel t c a) (strideChannel t c b) := by
  obtain ⟨k, rs, rfl⟩ := h
  have hnote : (a.withAnswers k rs).noteOn c = a.noteOn c := rfl
  have hch : (a.withAnswers k rs).ch = a.ch := rfl
  have hrt : (a.withAnswers k rs).rt = a.rt := rfl
  unfold strideChannel
  rw [hnote, hch, hrt]
  split
  · split
    · exact .done ⟨k, rs, updateVolume_withAnswers ..⟩
    · exact .raised _ ⟨k, rs, rfl⟩
  · exact .done ⟨k, rs, rfl⟩

theorem strideRecompute_alike (t : Rat) {a b : State} (h : a.Alike b) :
    Effect.Alike State.Alike (strideRecompute t a) (strideRecompute t b) :=
  Effect.Alike.forEach (strideChannel_alike t) _ a b h

/-- Two renderings at the same cursor in states that differ in answers only; the buffers may differ. -/
structure Rendering.Alike (r r' : Rendering) : Prop where
  st : r.st.Alike r'.st
  cursor : r'.cursor = r.cursor

theorem clockEngine_alike {numOut numOut' : Nat} (i : Nat) {r r' : Rendering} (h : r.Alike r') :
    (clockEngine numOut i r).Alike (clockEngine numOut' i r') := by
  obtain ⟨k, rs, hst⟩ := h.st
  refine ⟨⟨k + 1, rs, ?_⟩, h.cursor⟩
  simp only [clockEngine, hst, emit_withAnswers]
  rfl

theorem renderSample_alike (tBlk : Rat) {numOut numOut' : Nat} (i : Nat) {r r' : Rendering}
    (h : r.Alike r') :
    Effect.Alike Rendering.Alike (renderSample tBlk numOut i r) (renderSample tBlk numOut' i r') := by
  have htime : sampleTime tBlk i r'.st = sampleTime tBlk i r.st := by
    obtain ⟨k, rs, hst⟩ := h.st
    rw [hst]; rfl
  unfold renderSample
  split
  · rw [htime]
    have hstride := strideRecompute_alike (sampleTime tBlk i r.st) h.st
    generalize strideRecompute (sampleTime tBlk i r.st) r.st = x at hstride
    generalize strideRecompute (sampleTime tBlk i r.st) r'.st = y at hstride
    cases hstride with
    | done hab => exact .done (clockEngine_alike i ⟨hab, h.cursor⟩)
    | raised why hab => exact .raised why ⟨hab, h.cursor⟩
  · exact .done (clockEngine_alike i h)

theorem renderSamples_alike (tBlk : Rat) (numOut numOut' count : Nat) :
    ∀ (i : Nat) (r r' : Rendering), r.Alike r' →
      Effect.Alike Rendering.Alike (renderSamples tBlk numOut count i r)
        (renderSamples tBlk numOut' count i r') := by
  induction count with
  | zero => intro i r r' h; exact .done h
  | succ count ih => intro i r r' h; exact (renderSample_alike tBlk i h).andThen (ih (i + 1))

theorem renderRange_alike (tBlk : Rat) (numOut numOut' a b : Nat) {r r' : Rendering}
    (h : r.Alike r') :
    Effect.Alike Rendering.Alike (renderRange tBlk numOut a b r) (renderRange tBlk numOut' a b r') := by
  have hskips : r'.st.skips = r.st.skips := by
    obtain ⟨k, rs, hst⟩ := h.st
    rw [hst]; rfl
  unfold renderRange
  rw [hskips]
  split
  · exact .done h
  · split
    · exact .done h
    · exact renderSamples_alike tBlk numOut numOut' _ a r r' h

/-! ## The whole command -/

theorem advanceTo_alike (tBlk : Rat) (blockLen numOut numOut' off : Nat) {r r' : Rendering}
    (h : r.Alike r') :
    Effect.Alike Rendering.Alike (advanceTo tBlk blockLen numOut off r)
      (advanceTo tBlk blockLen numOut' off r') := by
  unfold advanceTo
  rw [h.cursor]
  split
  · exact .done h
  · exact (renderRange_alike tBlk numOut numOut' _ _ h).andThen (fun a b hab => .done ⟨hab.st, rfl⟩)

theorem eventLoop_alike (tBlk : Rat) (blockLen numOut numOut' : Nat) (events : List TimedEvent) :
    ∀ r r' : Rendering, r.Alike r' →
      Effect.Alike Rendering.Alike (eventLoop tBlk blockLen numOut events r)
        (eventLoop tBlk blockLen numOut' events r') := by
  induction events with
  | nil => intro r r' h; exact .done h
  | cons ev rest ih =>
    intro r r' h
    refine (advanceTo_alike tBlk blockLen numOut numOut' ev.2 h).andThen (fun a b hab => ?_)
    exact ih _ _ ⟨applyWord_alike ev.1 hab.st, hab.cursor⟩

theorem renderEvents_alike (tBlk : Rat) (blockLen numOut numOut' : Nat) (events : List TimedEvent)
    {r r' : Rendering} (h : r.Alike r') :
    Effect.Alike Rendering.Alike (renderEvents tBlk blockLen numOut events r)
      (renderEvents tBlk blockLen numOut' events r') := by
  refine (eventLoop_alike tBlk blockLen numOut numOut' events r r' h).andThen (fun a b hab => ?_)
  unfold trailingRange
  rw [hab.cursor]
  exact (renderRange_alike tBlk numOut numOut' _ _ hab).andThen (fun u v huv => .done ⟨huv.st, rfl⟩)

theorem advanceElapsed_withAnswers (blockLen : Nat) (s : State) (k : Nat) (rs : List Reply) :
    advanceElapsed blockLen (s.withAnswers k rs) = (advanceElapsed blockLen s).withAnswers k rs := by
  have he : (s.withAnswers k rs).e = s.e := rfl
  unfold advanceElapsed
  rw [he]
  split <;> rfl

theorem finishRender_alike (blockLen : Nat) {x y : Effect Rendering}
    (h : Effect.Alike Rendering.Alike x y) :
    (finishRender blockLen x).Alike (finishRender blockLen y) := by
  cases h with
  | @done r r' h =>
    obtain ⟨k, rs, hst⟩ := h.st
    refine ⟨k, rs ++ [.buffer r'.out], ?_⟩
    simp only [finishRender, hst, advanceElapsed_withAnswers]
    rfl
  | @raised why r r' h =>
    obtain ⟨k, rs, hst⟩ := h.st
    refine ⟨k, rs ++ [.buffer r'.out], ?_⟩
    simp only [finishRender, hst]
    rfl

theorem renderBlock_alike (blockLen numOut numOut' : Nat) (events : List TimedEvent)
    (prior prior' : Buffer) {s s' : State} (h : s.Alike s') :
    (renderBlock blockLen numOut events prior s).Alike
      (renderBlock blockLen numOut' events prior' s') := by
  obtain ⟨k, rs, rfl⟩ := h
  have hcfg : (s.withAnswers k rs).cfg = s.cfg := rfl
  have he : (s.withAnswers k rs).e = s.e := rfl
  unfold renderBlock
  rw [hcfg, he]
  split
  · exact ⟨k, rs, rfl⟩
  · split
    · exact ⟨k, rs, rfl⟩
    · exact finishRender_alike blockLen (renderEvents_alike _ _ _ _ _ ⟨⟨k, rs, rfl⟩, rfl⟩)

/-- Settles O50: states that are alike before a RENDER are alike after it. -/
theorem renderIgnoresEngineAnswers : Obligations.RenderIgnoresEngineAnswers := by
  unfold Obligations.RenderIgnoresEngineAnswers
  intro n numOut numOut' k events prior prior' replies' s t t' ht ht'
  cases ht
  cases ht'
  have halike := renderBlock_alike n numOut numOut' events prior prior'
    (s := s) (s' := s.withAnswers k replies') ⟨k, replies', rfl⟩
  exact ⟨halike.trace, halike.stored⟩

end Sys2Proof.Machine
end

section
/-! SUPPORT. The invariant of a block (spec/10_state.md R31, R42, R44, spec/30_encoding.md R109,
spec/42_renderer.md R209, R212): what keeps it, from the shared operations up to one step. -/

namespace Sys2Proof.Machine

open Sys2Proof

/-! ## Ranges of the emitted arguments (R109, R161) -/

theorem clampInt_toNat_le (v : Int) (hi : Nat) : (clampInt v 0 hi).toNat ≤ hi := by
  have hclamp := clampInt_le v 0 hi (Int.natCast_nonneg hi)
  omega

theorem apVol_le (v : Word32) : apVol v ≤ 14 := clampInt_toNat_le _ Config.volMax
theorem apPeriod_le (p : Word32) : apPeriod p ≤ 65535 := clampInt_toNat_le _ Config.periodMax
theorem apShape_le (w : Word32) : apShape w ≤ 15 := clampInt_toNat_le _ Config.shapeMax
theorem apNoise_le (n : Word32) : apNoise n ≤ 31 := clampInt_toNat_le _ Config.noiseMax
theorem effVol_le (volume : Word32) (r : Rat) : effVol volume r ≤ 14 := clampInt_toNat_le _ Config.volMax

theorem volumeOf_le (v : BitVec 7) : volumeOf v ≤ 14 := by
  unfold volumeOf
  omega

theorem composedPeriod_le (x : Fragments) : composedPeriod x ≤ 65535 := Nat.min_le_right _ _

theorem programNoise_le (pv : BitVec 7) : programNoise pv ≤ 31 :=
  Nat.le_of_lt_succ (pv.extractLsb' 0 5).isLt

/-- A pan that can be applied is applied in 0..1 (R161). -/
theorem setPan_inRange {c : Chan} {w : F32} {p : Rat} (h : apPan w = some p) :
    (EngineCmd.setPan c p Config.panFlags).inRange := by
  obtain ⟨q, -, rfl⟩ := Option.map_eq_some_iff.mp h
  obtain ⟨hlo, hhi⟩ := clampRat_mem q 0 1 zero_le_one
  exact ⟨hlo, hhi, rfl⟩

/-- The pan controller's position lies in 0..1 (R168). -/
theorem panPosition_inRange (c : Chan) (v : BitVec 7) :
    (EngineCmd.setPan c (panPosition v) Config.panFlags).inRange := by
  have hv : (v.toNat : Rat) ≤ 128 := by exact_mod_cast v.isLt.le
  refine ⟨?_, ?_, rfl⟩
  · unfold panPosition; positivity
  · unfold panPosition; linarith

/-! ## Operations that keep the invariant -/

/-- The elements of a state that the invariant speaks of. -/
def State.watched (s : State) :
    List EngineCmd × PerCh Runtime × Validity × Word32 × Bool × Nat × Rat :=
  (s.trace, s.rt, s.v, s.g.clockRate, s.e.active, s.e.sampleRate, s.e.elapsed)

/-- An operation that writes none of the watched elements keeps the invariant. -/
theorem State.Inv.of_watched {s t : State} (h : s.Inv) (hw : t.watched = s.watched) : t.Inv := by
  simp only [State.watched, Prod.mk.injEq] at hw
  obtain ⟨htrace, hrt, hv, hclock, hactive, hrate, helapsed⟩ := hw
  constructor
  case traceInRange => rw [htrace]; exact h.traceInRange
  case activeRate => rw [hactive, hrate]; exact h.activeRate
  case activeClock => rw [hactive, hclock]; exact h.activeClock
  case activeConfigured => rw [hactive, hv]; exact h.activeConfigured
  case cacheLegal => rw [hrt]; exact h.cacheLegal
  case startLegal => rw [hrt, helapsed]; exact h.startLegal
  case inactiveTime => rw [hactive, helapsed]; exact h.inactiveTime

/-- While inactive, the clock rate and V are free. -/
theorem State.Inv.of_inactive {s t : State} (h : s.Inv) (hs : s.e.active = false)
    (he : t.e = s.e) (hrt : t.rt = s.rt) (htrace : t.trace = s.trace) : t.Inv := by
  have ht : ¬ t.e.active = true := by simp [he, hs]
  constructor
  case traceInRange => rw [htrace]; exact h.traceInRange
  case activeRate => exact fun hactive => absurd hactive ht
  case activeClock => exact fun hactive => absurd hactive ht
  case activeConfigured => exact fun hactive => absurd hactive ht
  case cacheLegal => rw [hrt]; exact h.cacheLegal
  case startLegal => rw [hrt, he]; exact h.startLegal
  case inactiveTime => rw [he]; exact h.inactiveTime

/-- A reset of the runtime leaves no start time or cached volume that could be illegal (R302). -/
theorem runtimeReset_inv {s : State} (htrace : ∀ cmd ∈ s.trace, cmd.inRange)
    (hrate : s.e.active = true → 0 < s.e.sampleRate)
    (hclock : s.e.active = true → 0 < sext32 s.g.clockRate)
    (hv : s.e.active = true → s.v ≠ .uninitialized) : (runtimeReset s).Inv where
  traceInRange := htrace
  activeRate := hrate
  activeClock := hclock
  activeConfigured := hv
  cacheLegal c v hcache := by cases c <;> cases hcache
  startLegal c := by cases c <;> exact ⟨le_rfl, le_rfl⟩
  inactiveTime _ := rfl

/-- A command that is in range whenever it is emitted keeps the invariant (R11). -/
theorem State.Inv.emit {s : State} (h : s.Inv) (cmd : EngineCmd)
    (hcmd : s.e.active = true → cmd.inRange) : (emit cmd s).Inv := by
  rcases emit_cases cmd s with ⟨hactive, heq⟩ | ⟨-, heq⟩
  · rw [heq]
    refine { h with traceInRange := fun k hk => ?_ }
    rcases List.mem_append.mp hk with hk | hk
    · exact h.traceInRange k hk
    · rw [List.mem_singleton.mp hk]
      exact hcmd hactive
  · rw [heq]
    exact h

/-- The shape of most writes: a store of elements that are not watched, and then an emission. -/
theorem State.Inv.storeEmit {s u : State} (h : s.Inv) (cmd : EngineCmd) (hcmd : cmd.inRange)
    (hw : u.watched = s.watched := by rfl) : (Machine.emit cmd u).Inv :=
  (h.of_watched hw).emit cmd fun _ => hcmd

theorem State.Inv.emitMixer {s : State} (h : s.Inv) (c : Chan) (m : Word32) :
    (emitMixer c m s).Inv := h.storeEmit _ trivial

/-- A legal runtime of one channel keeps the invariant. -/
theorem State.Inv.setRt {s : State} (h : s.Inv) (c : Chan) {r : Runtime}
    (hcache : ∀ v, r.volCache = some v → v ≤ 14)
    (hstart : 0 ≤ r.startTime ∧ r.startTime ≤ s.e.elapsed) : (s.setRt c r).Inv := by
  refine { h with cacheLegal := fun d => ?_, startLegal := fun d => ?_ }
  · rw [State.setRt_rt, PerCh.get_set]
    split
    · exact hcache
    · exact h.cacheLegal d
  · rw [State.setRt_rt, PerCh.get_set]
    split
    · exact hstart
    · exact h.startLegal d

theorem State.Inv.setNoteOn {s : State} (h : s.Inv) (c : Chan) (b : Bool) : (s.setNoteOn c b).Inv :=
  h.setRt c (h.cacheLegal c) (h.startLegal c)

theorem State.Inv.setVolCache {s : State} (h : s.Inv) (c : Chan) {v : Nat} (hv : v ≤ 14) :
    (s.setVolCache c v).Inv :=
  h.setRt c (fun _ hsome => Option.some.inj hsome ▸ hv) (h.startLegal c)

theorem State.Inv.elapsed_nonneg {s : State} (h : s.Inv) : 0 ≤ s.e.elapsed :=
  (h.startLegal .ch0).1.trans (h.startLegal .ch0).2

/-- A note may start now (R163, R209). -/
theorem State.Inv.setStartTime {s : State} (h : s.Inv) (c : Chan) :
    (s.setStartTime c s.e.elapsed).Inv :=
  h.setRt c (h.cacheLegal c) ⟨h.elapsed_nonneg, le_rfl⟩

/-! ## Events (R160) -/

theorem releaseVoice_inv (c : Chan) {s : State} (h : s.Inv) : (releaseVoice c s).Inv := by
  have hperturb : ∀ u : State, u.Inv → (perturbShape u).Inv := fun u hu => by
    unfold perturbShape
    split
    · exact hu
    · exact hu.storeEmit _ <| Nat.le_of_lt_succ (BitVec.isLt _)
  unfold releaseVoice
  split
  · exact h
  · exact (hperturb _ (h.storeEmit (.setMixer c false false false) trivial)).setNoteOn c false

theorem startVoice_inv (c : Chan) (key : BitVec 7) {s : State} (h : s.Inv) :
    (startVoice c key s).Inv := by
  unfold startVoice
  split
  · exact h
  · have hshape := (h.emitMixer c (s.ch.get c).mixer).storeEmit
      (.setEnvelopeShape (apShape s.g.envShape)) (apShape_le _)
    have hstart := hshape.setStartTime c
    simp only [Machine.emitMixer, emit_e] at hstart
    exact (hstart.storeEmit (.setTone c (tonePeriod (sext32 s.g.clockRate) key)) trivial).setNoteOn c true

theorem composePeriod_inv {s : State} (h : s.Inv) : (composePeriod s).Inv :=
  h.storeEmit (.setEnvelope (composedPeriod s.x)) (composedPeriod_le s.x)

/-- Every event meaning keeps the invariant. -/
theorem applyEvent_inv (i : Instr) {s : State} (h : s.Inv) : (stateAfter (applyEvent i s) s).Inv := by
  cases i with
  | noteOn c key _ => exact startVoice_inv c key h
  | noteOff c _ _ | noteOnV0 c _ => exact releaseVoice_inv c h
  | programChange c pv _ =>
    exact State.Inv.emitMixer (h.storeEmit (.setNoise (programNoise pv)) (programNoise_le pv)) c _
  | ccBank c v => exact h.storeEmit (mixerCmd c (word32 (v.extractLsb' 0 3).toNat)) trivial
  | ccVolume c v => exact h.storeEmit (.setVolume c (volumeOf v)) (volumeOf_le v)
  | ccPan c v =>
    exact h.storeEmit (.setPan c (panPosition v) Config.panFlags) (panPosition_inRange c v)
  | ccEshape c v =>
    exact h.storeEmit (.setEnvelopeShape (v.extractLsb' 0 4).toNat)
      (Nat.le_of_lt_succ (v.extractLsb' 0 4).isLt)
  | ccEperH | ccEperM | ccEperL => exact composePeriod_inv (h.of_watched rfl)
  | ccDcReset => exact h.storeEmit .removeDc trivial
  | _ => exact h.of_watched rfl

theorem applyWord_inv (w : EventWord) {s : State} (h : s.Inv) : (applyWord w s).Inv :=
  applyEvent_inv _ h

/-! ## A RENDER -/

theorem updateVolume_inv (c : Chan) {v : Nat} (hv : v ≤ 14) {s : State} (h : s.Inv) :
    (updateVolume c v s).Inv := by
  unfold updateVolume
  split
  · exact h
  · exact (h.storeEmit (.setVolume c v) hv).setVolCache c hv

theorem strideChannel_inv (t : Rat) (c : Chan) {s : State} (h : s.Inv) :
    (strideChannel t c s).carried.Inv := by
  unfold strideChannel
  split
  · split
    · exact updateVolume_inv c (effVol_le _ _) h
    · exact h
  · exact h

theorem strideRecompute_inv (t : Rat) {s : State} (h : s.Inv) : (strideRecompute t s).carried.Inv :=
  Effect.forEach_carried State.Inv (fun c _ hu => strideChannel_inv t c hu) _ s h

theorem clockEngine_inv (numOut i : Nat) {r : Rendering} (h : r.st.Inv) :
    (clockEngine numOut i r).st.Inv := by
  have hemit := (h.storeEmit .process trivial).storeEmit .removeDc trivial
  exact hemit.of_watched rfl

theorem renderSample_inv (tBlk : Rat) (numOut i : Nat) {r : Rendering} (h : r.st.Inv) :
    (renderSample tBlk numOut i r).carried.st.Inv := by
  unfold renderSample
  split
  · have hstride := strideRecompute_inv (sampleTime tBlk i r.st) h
    split
    next s heq =>
      rw [heq] at hstride
      exact clockEngine_inv numOut i (r := { r with st := s }) hstride
    next why s heq =>
      rw [heq] at hstride
      exact hstride
  · exact clockEngine_inv numOut i h

theorem renderSamples_inv (tBlk : Rat) (numOut count : Nat) :
    ∀ (a : Nat) (r : Rendering), r.st.Inv → (renderSamples tBlk numOut count a r).carried.st.Inv := by
  induction count with
  | zero => exact fun _ _ h => h
  | succ count ih =>
    intro a r h
    exact Effect.andThen_carried (fun u : Rendering => u.st.Inv) (renderSample_inv tBlk numOut a h)
      (ih (a + 1))

theorem renderRange_inv (tBlk : Rat) (numOut a b : Nat) {r : Rendering} (h : r.st.Inv) :
    (renderRange tBlk numOut a b r).carried.st.Inv := by
  unfold renderRange
  split
  · exact h
  · split
    · exact h
    · exact renderSamples_inv tBlk numOut _ a r h

theorem advanceTo_inv (tBlk : Rat) (blockLen numOut off : Nat) {r : Rendering} (h : r.st.Inv) :
    (advanceTo tBlk blockLen numOut off r).carried.st.Inv := by
  unfold advanceTo
  split
  · exact h
  · exact Effect.andThen_carried (fun u : Rendering => u.st.Inv) (renderRange_inv tBlk numOut _ _ h)
      (fun _ hu => hu)

theorem eventLoop_inv (tBlk : Rat) (blockLen numOut : Nat) (events : List TimedEvent) :
    ∀ r : Rendering, r.st.Inv → (eventLoop tBlk blockLen numOut events r).carried.st.Inv := by
  induction events with
  | nil => exact fun _ h => h
  | cons ev rest ih =>
    intro r h
    exact Effect.andThen_carried (fun u : Rendering => u.st.Inv) (advanceTo_inv tBlk blockLen numOut ev.2 h)
      (fun u hu => ih _ (applyWord_inv ev.1 hu))

theorem renderEvents_inv (tBlk : Rat) (blockLen numOut : Nat) (events : List TimedEvent)
    {r : Rendering} (h : r.st.Inv) : (renderEvents tBlk blockLen numOut events r).carried.st.Inv := by
  refine Effect.andThen_carried (fun u : Rendering => u.st.Inv) (eventLoop_inv _ _ _ _ r h) (fun u hu => ?_)
  exact Effect.andThen_carried (fun u : Rendering => u.st.Inv) (renderRange_inv tBlk numOut _ _ hu)
    (fun _ hv => hv)

/-- Time only goes forward, and only while active (R212), so no note starts in the future. -/
theorem advanceElapsed_inv (blockLen : Nat) {s : State} (h : s.Inv) : (advanceElapsed blockLen s).Inv := by
  unfold advanceElapsed
  split
  next hactive =>
    have hblock : 0 ≤ (blockLen : Rat) / (s.e.sampleRate : Rat) := by positivity
    exact { h with
      startLegal := fun c => ⟨(h.startLegal c).1, (h.startLegal c).2.trans (le_add_of_nonneg_right hblock)⟩
      inactiveTime := fun hinactive => absurd hactive (by simpa using hinactive) }
  next => exact h

theorem finishRender_inv (blockLen : Nat) {x : Effect Rendering} (h : x.carried.st.Inv) :
    (finishRender blockLen x).Inv := by
  cases x with
  | done r => exact (advanceElapsed_inv blockLen h).of_watched rfl
  | raised why r => exact State.Inv.of_watched (s := r.st) h rfl

theorem renderBlock_inv (blockLen numOut : Nat) (events : List TimedEvent) (prior : Buffer) {s : State}
    (h : s.Inv) : (renderBlock blockLen numOut events prior s).Inv := by
  unfold renderBlock
  split
  · exact h.of_watched rfl
  · split
    · exact h.of_watched rfl
    · exact finishRender_inv blockLen
        (renderEvents_inv _ _ _ _ (r := { st := s, cursor := 0, out := prior }) h)

/-! ## Host commands -/

theorem finish_inv {x : Effect State} (h : x.carried.Inv) : x.finish.Inv := by
  cases x with
  | done s => exact h
  | raised why s => exact State.Inv.of_watched (s := s) h rfl

theorem restoreChannel_inv (c : Chan) {s : State} (h : s.Inv) : (restoreChannel c s).carried.Inv := by
  have hvolume := (h.storeEmit (.setMixer c false false false) trivial).storeEmit
    (.setVolume c (apVol (s.ch.get c).volume)) (apVol_le _)
  simp only [restoreChannel]
  split
  next p hpan => exact hvolume.storeEmit _ (setPan_inRange hpan)
  next => exact hvolume

/-- The configure command takes its range from the invariant itself: an active block has a positive rate
and clock (R232). -/
theorem engineRestore_inv {s : State} (h : s.Inv) : (engineRestore s).carried.Inv := by
  have hconfigure := h.emit (.configure Config.engineArg0 (sext32 s.g.clockRate) s.e.sampleRate)
    fun hactive => ⟨rfl, h.activeClock hactive, Int.le_sub_one_of_lt BitVec.toInt_lt, h.activeRate hactive⟩
  refine Effect.andThen_carried State.Inv ?_
    (fun t ht => (ht.storeEmit (.setNoise (apNoise t.g.noisePeriod)) (apNoise_le _)).storeEmit
      (.setEnvelope (apPeriod t.g.envPeriod)) (apPeriod_le _))
  exact Effect.forEach_carried State.Inv (fun c _ hu => restoreChannel_inv c hu) _ _ hconfigure

/-- Installing the defaults touches no runtime, no E and no trace. -/
theorem defaultIfUninitialized_frame (s : State) :
    (defaultIfUninitialized s).e = s.e ∧ (defaultIfUninitialized s).rt = s.rt ∧
      (defaultIfUninitialized s).trace = s.trace := by
  unfold defaultIfUninitialized
  split <;> exact ⟨rfl, rfl, rfl⟩

theorem defaultIfUninitialized_v (s : State) : (defaultIfUninitialized s).v ≠ .uninitialized := by
  unfold defaultIfUninitialized
  split
  · exact nofun
  · assumption

theorem configureBlock_inv (sampleRate : Nat) {s : State} (h : s.Inv) :
    (configureBlock sampleRate s).carried.Inv := by
  obtain ⟨he, hrt, htrace⟩ := defaultIfUninitialized_frame s
  simp only [configureBlock]
  split_ifs with hactive hrate hclock
  · exact h
  · exact h
  · exact h.of_inactive (Bool.not_eq_true _ ▸ hactive) he hrt htrace
  · have hconfigured : (runtimeReset ((defaultIfUninitialized s).activate sampleRate)).Inv :=
      runtimeReset_inv (fun cmd hcmd => h.traceInRange cmd (htrace ▸ hcmd))
        (fun _ => Nat.pos_of_ne_zero hrate) (fun _ => not_le.mp hclock)
        (fun _ => defaultIfUninitialized_v s)
    exact engineRestore_inv hconfigured

theorem deconfigureBlock_inv {s : State} (h : s.Inv) : (deconfigureBlock s).Inv := by
  unfold deconfigureBlock
  split
  · exact runtimeReset_inv h.traceInRange nofun nofun nofun
  · exact h

/-- Only the clock rate is both stored by a parameter and read by the invariant; it is refused while
active (R242). -/
theorem writeParam_inv (f : Field) (value : Word32) {s : State} (h : s.Inv) :
    (writeParam f value s).carried.Inv := by
  cases f with
  | mixer c => exact h.storeEmit (mixerCmd c value) trivial
  | volume c => exact h.storeEmit (.setVolume c (apVol value)) (apVol_le value)
  | envPeriod => exact h.storeEmit (.setEnvelope (apPeriod value)) (apPeriod_le value)
  | envShape => exact h.storeEmit (.setEnvelopeShape (apShape value)) (apShape_le value)
  | noisePeriod => exact h.storeEmit (.setNoise (apNoise value)) (apNoise_le value)
  | numPoints | time | ratio => exact h.of_watched rfl
  | clockRate =>
    simp only [writeParam]
    split
    next => exact h
    next hactive => exact h.of_inactive (Bool.not_eq_true _ ▸ hactive) rfl rfl rfl
  | pan c =>
    have hwrite : ((Field.pan c).write value s).Inv := h.of_watched rfl
    simp only [writeParam]
    split
    · split
      next p hpan => exact hwrite.storeEmit _ (setPan_inRange hpan)
      next => exact hwrite
    · exact hwrite

theorem paramBlock_inv (id : BitVec 8) (value : Word32) {s : State} (h : s.Inv) :
    (paramBlock id value s).carried.Inv := by
  unfold paramBlock
  split
  · exact h
  · exact writeParam_inv _ value h

theorem saveState_inv (layout : Nat) {s : State} (h : s.Inv) : (saveState layout s).carried.Inv := by
  unfold saveState
  split
  · exact h.of_watched rfl
  · exact h.of_watched rfl
  · exact h

/-- Loading fields writes G and ch only (R248). -/
theorem loadFields_frame (len : Nat) (blob : List Byte) (s : State) :
    loadFields len blob s = { s with g := (loadFields len blob s).g, ch := (loadFields len blob s).ch } := by
  unfold loadFields
  generalize fieldsWithin len = fields
  induction fields generalizing s with
  | nil => rfl
  | cons f rest ih =>
    rw [List.foldl_cons, ih, Field.write_frame]

theorem loadState_inv (blob : List Byte) {s : State} (h : s.Inv) : (loadState blob s).carried.Inv := by
  unfold loadState
  split
  next => exact h
  next hactive =>
    have hs : s.e.active = false := Bool.not_eq_true _ ▸ hactive
    split
    · exact h.of_inactive hs rfl rfl rfl
    · split
      · rw [loadFields_frame]
        exact h.of_inactive hs rfl rfl rfl
      · rw [loadFields_frame]
        exact h.of_inactive hs rfl rfl rfl

/-! ## Every command, and one step -/

theorem exec_inv {i : Instr} {s t : State} (h : s.Inv) (hexec : exec i s = .next t) : t.Inv := by
  cases hev : i.isEvent with
  | true =>
    have hafter := applyEvent_inv i h
    rwa [← exec_eq_applyEvent hev, hexec] at hafter
  | false =>
    cases i with
    | configure sr => cases hexec; exact finish_inv (configureBlock_inv sr h)
    | deconfigure => cases hexec; exact deconfigureBlock_inv h
    | render n numOut events prior => cases hexec; exact renderBlock_inv n numOut events prior h
    | paramWrite id value => cases hexec; exact finish_inv (paramBlock_inv id value h)
    | stateSave layout => cases hexec; exact finish_inv (saveState_inv layout h)
    | stateLoad blob => cases hexec; exact finish_inv (loadState_inv blob h)
    | badOp op => cases hexec; exact h.of_watched rfl
    | _ => cases hev

/-- Settles O14: an idle step changes nothing, and every command keeps the invariant. -/
theorem stepKeepsInvariant : Obligations.StepKeepsInvariant := by
  unfold Obligations.StepKeepsInvariant
  intro s t h hstep
  rcases step_next_cases hstep with rfl | ⟨i, rest, hexec⟩
  · exact h
  · exact exec_inv (h.of_watched (t := s.setPending rest) rfl) hexec

end Sys2Proof.Machine
end

section
/-! SUPPORT. What no event writes (spec/10_state.md R51, spec/41_events.md R160). -/

namespace Sys2Proof.Machine

open Sys2Proof

/-- The elements that no event which is not refused writes (R51, columns Ev): the mark, the clock rate, the
mode, the sample rate, the elapsed time, V, the volume caches, and what is not the block's own state. -/
def State.untouched (s : State) :
    (Option Reason × Word32 × Bool × Nat × Rat × Validity) × (Option Nat × Option Nat × Option Nat) ×
      Config × List HostRecord × List Reply :=
  ((s.refused, s.g.clockRate, s.e.active, s.e.sampleRate, s.e.elapsed, s.v),
    ((s.rt.get .ch0).volCache, (s.rt.get .ch1).volCache, (s.rt.get .ch2).volCache),
    s.cfg, s.pending, s.replies)

/-- The untouched elements, one by one. -/
theorem State.untouched_iff {s t : State} : t.untouched = s.untouched ↔
    t.refused = s.refused ∧ t.g.clockRate = s.g.clockRate ∧ t.e.active = s.e.active ∧
      t.e.sampleRate = s.e.sampleRate ∧ t.e.elapsed = s.e.elapsed ∧ t.v = s.v ∧
      (∀ c, (t.rt.get c).volCache = (s.rt.get c).volCache) ∧
      t.cfg = s.cfg ∧ t.pending = s.pending ∧ t.replies = s.replies := by
  have hchan : (∀ c, (t.rt.get c).volCache = (s.rt.get c).volCache) ↔
      (t.rt.get .ch0).volCache = (s.rt.get .ch0).volCache ∧
        (t.rt.get .ch1).volCache = (s.rt.get .ch1).volCache ∧
        (t.rt.get .ch2).volCache = (s.rt.get .ch2).volCache :=
    ⟨fun h => ⟨h .ch0, h .ch1, h .ch2⟩, fun ⟨h0, h1, h2⟩ c => by cases c <;> assumption⟩
  simp only [State.untouched, Prod.mk.injEq, hchan, and_assoc]

theorem emit_untouched (cmd : EngineCmd) (s : State) : (emit cmd s).untouched = s.untouched := by
  rw [emit_eq]
  rfl

theorem setNoteOn_untouched (c : Chan) (b : Bool) (s : State) :
    (s.setNoteOn c b).untouched = s.untouched := by
  cases c <;> rfl

theorem setStartTime_untouched (c : Chan) (t : Rat) (s : State) :
    (s.setStartTime c t).untouched = s.untouched := by
  cases c <;> rfl

theorem releaseVoice_untouched (c : Chan) (s : State) : (releaseVoice c s).untouched = s.untouched := by
  unfold releaseVoice
  split
  · rfl
  · rw [setNoteOn_untouched, perturbShape_eq]
    exact emit_untouched _ s

theorem startVoice_untouched (c : Chan) (key : BitVec 7) (s : State) :
    (startVoice c key s).untouched = s.untouched := by
  unfold startVoice
  split
  · rfl
  · simp only [emitMixer, setNoteOn_untouched, emit_untouched, setStartTime_untouched]

/-- A refused word sets the mark and does nothing else (R103). -/
theorem applyEvent_of_dataBit7 {i : Instr} (h : i.isDataBit7 = true) (s : State) :
    applyEvent i s = .next (s.refuse .dataBit7) := by
  cases i with
  | refusedBit7D1 | refusedBit7D2T8 | refusedBit7D2T9 | refusedBit7D2TB | refusedBit7D2TE => rfl
  | _ => cases h

/-- An event that is not refused stores elsewhere and emits (R160). -/
theorem applyEvent_untouched {i : Instr} (h : i.isDataBit7 = false) (s : State) :
    (stateAfter (applyEvent i s) s).untouched = s.untouched := by
  cases i with
  | refusedBit7D1 | refusedBit7D2T8 | refusedBit7D2T9 | refusedBit7D2TB | refusedBit7D2TE => cases h
  | noteOn c key _ => exact startVoice_untouched c key s
  | noteOff c _ _ | noteOnV0 c _ => exact releaseVoice_untouched c s
  | programChange => exact (emit_untouched _ _).trans (emit_untouched _ _)
  | ccBank | ccVolume | ccPan | ccEshape | ccEperH | ccEperM | ccEperL | ccDcReset =>
    exact emit_untouched _ _
  | _ => rfl

/-- Settles O32. -/
theorem eventsWriteOnlyTheirElements : Obligations.EventsWriteOnlyTheirElements := by
  unfold Obligations.EventsWriteOnlyTheirElements
  intro i s hevent hgood
  obtain ⟨t, ht⟩ := applyEvent_next i s
  have hframe := applyEvent_untouched hgood s
  rw [ht] at hframe
  exact ⟨t, (exec_eq_applyEvent hevent s).trans ht, State.untouched_iff.mp hframe⟩

end Sys2Proof.Machine
end

section
/-! SUPPORT. The event loop of a RENDER, sample by sample (spec/10_state.md R52, spec/42_renderer.md R203 to
R206): where the cursor stands, how often the engine is clocked, and what stands before and after an event. -/

namespace Sys2Proof.Machine

open Sys2Proof

/-! ## What a part that is done hands on -/

theorem SampleFrame.replies {s t : State} (h : SampleFrame s t) : t.replies = s.replies := by rw [h.rest]

/-- A part that is done hands on the state it carries. -/
theorem Effect.carried_of_done {α : Type} {x : Effect α} {a : α} (h : x = .done a) : x.carried = a := by
  rw [h]
  rfl

theorem renderRange_done_frame {tBlk : Rat} {numOut a b : Nat} {r r' : Rendering}
    (h : renderRange tBlk numOut a b r = .done r') : SampleFrame r.st r'.st := by
  rw [← Effect.carried_of_done h]
  exact renderRange_frame ..

/-! ## Events of a list -/

theorem decodeUnknownType_isEvent (w : EventWord) : (decodeUnknownType w).isEvent = true := by
  unfold decodeUnknownType
  split_ifs <;> rfl

theorem decodeIgnoredChannel_isEvent (t : EventType) (w : EventWord) :
    (decodeIgnoredChannel t w).isEvent = true := by
  unfold decodeIgnoredChannel
  split_ifs <;> rfl

theorem decodeController_isEvent (m : CCMap) (c : Chan) (k v : BitVec 7) :
    (decodeController m c k v).isEvent = true := by
  have hswenv : (decodeSwenv m c k v).isEvent = true := by
    unfold decodeSwenv
    split
    · split <;> rfl
    · rfl
  unfold decodeController
  split_ifs
  case neg => exact hswenv
  all_goals rfl

theorem decodeData_isEvent (m : CCMap) (t : EventType) (c : Chan) (w : EventWord) :
    (decodeData m t c w).isEvent = true := by
  unfold decodeData
  split
  · rfl
  · cases t with
    | noteOff | pitchBend => dsimp only; split <;> rfl
    | noteOn => dsimp only; split_ifs <;> rfl
    | programChange => rfl
    | controlChange =>
      dsimp only
      split
      · rfl
      · exact decodeController_isEvent ..

/-- A word decodes to an event outcome, never to a host command (R113). -/
theorem decodeEvent_isEvent (m : CCMap) (w : EventWord) : (decodeEvent m w).isEvent = true := by
  unfold decodeEvent
  split
  · exact decodeUnknownType_isEvent w
  · split
    · exact decodeIgnoredChannel_isEvent ..
    · exact decodeData_isEvent ..

/-- Applying a word is the meaning of the event it decodes to. -/
theorem exec_decodeEvent (w : EventWord) (s : State) :
    exec (decodeEvent s.cfg.ccmap w) s = .next (applyWord w s) :=
  (exec_eq_applyEvent (decodeEvent_isEvent ..) s).trans (applyEvent_applyWord w s)

theorem applyWord_replies (w : EventWord) (s : State) : (applyWord w s).replies = s.replies := by
  unfold applyWord
  generalize decodeEvent s.cfg.ccmap w = i
  cases hbad : i.isDataBit7 with
  | true => rw [applyEvent_of_dataBit7 hbad]; rfl
  | false =>
    obtain ⟨-, -, -, -, -, -, -, -, -, hreplies⟩ := State.untouched_iff.mp (applyEvent_untouched hbad s)
    exact hreplies

theorem offsetsOrdered_iff (events : List TimedEvent) :
    offsetsOrdered events = true ↔ events.IsChain (fun a b => a.2 ≤ b.2) := by
  fun_induction offsetsOrdered events with
  | case1 => simp
  | case2 => simp
  | case3 a b rest ih => simp [ih]

/-- In an accepted list no event comes before the last one of those in front of it (R201). -/
theorem lastOffset_le_of_ordered {pre post : List TimedEvent} {ev : TimedEvent}
    (h : offsetsOrdered (pre ++ ev :: post) = true) : lastOffset pre ≤ ev.2 := by
  obtain ⟨-, -, hjoin⟩ := List.isChain_append.mp ((offsetsOrdered_iff _).mp h)
  unfold lastOffset
  cases hlast : pre.getLast? with
  | none => exact Nat.zero_le _
  | some last => exact hjoin last hlast ev rfl

/-! ## The cursor (R52, R203) -/

theorem renderRange_empty {b a : Nat} (h : b ≤ a) (tBlk : Rat) (numOut : Nat) (r : Rendering) :
    renderRange tBlk numOut a b r = .done r := by
  simp [renderRange, h]

/-- With the cursor inside the block, the two cases of an advance are one: an empty range renders nothing. -/
theorem advanceTo_eq (tBlk : Rat) {blockLen : Nat} (numOut off : Nat) {r : Rendering}
    (h : r.cursor ≤ blockLen) : advanceTo tBlk blockLen numOut off r =
      (renderRange tBlk numOut r.cursor (min off blockLen) r).andThen
        (fun r' => .done { r' with cursor := min off blockLen }) := by
  unfold advanceTo
  split
  next hoff =>
    have hmin : min off blockLen = r.cursor := by omega
    rw [hmin, renderRange_empty le_rfl]
    rfl
  next => rfl

/-- The events from one on: the samples before its offset, the event, and the rest from there (R203). -/
theorem eventLoop_cons_done {tBlk : Rat} {blockLen numOut off : Nat} {w : EventWord}
    {rest : List TimedEvent} {r r' : Rendering} (hcursor : r.cursor ≤ blockLen)
    (h : eventLoop tBlk blockLen numOut ((w, off) :: rest) r = .done r') :
    ∃ u, renderRange tBlk numOut r.cursor (min off blockLen) r = .done u ∧
      eventLoop tBlk blockLen numOut rest
        { st := applyWord w u.st, cursor := min off blockLen, out := u.out } = .done r' := by
  rw [eventLoop, advanceTo_eq tBlk numOut off hcursor, Effect.andThen_assoc] at h
  exact Effect.andThen_eq_done h

/-- After the events the cursor stands at the last one's offset, or at N (R52). -/
theorem eventLoop_cursor {tBlk : Rat} {blockLen numOut : Nat} (events : List TimedEvent) :
    ∀ {r r' : Rendering}, r.cursor ≤ blockLen → eventLoop tBlk blockLen numOut events r = .done r' →
      r'.cursor = min ((events.getLast?.map (fun ev => ev.2)).getD r.cursor) blockLen := by
  induction events with
  | nil =>
    intro r r' hcursor h
    cases h
    exact (min_eq_left hcursor).symm
  | cons ev rest ih =>
    intro r r' hcursor h
    obtain ⟨u, -, hrest⟩ := eventLoop_cons_done hcursor h
    have hlast := ih (min_le_right ev.2 blockLen) hrest
    rw [hlast, List.getLast?_cons]
    cases rest.getLast? <;> simp

/-- No event of a list hands out a reply (R12). -/
theorem eventLoop_replies (tBlk : Rat) (blockLen numOut : Nat) (events : List TimedEvent) :
    ∀ r : Rendering, (eventLoop tBlk blockLen numOut events r).carried.st.replies = r.st.replies := by
  induction events with
  | nil => exact fun _ => rfl
  | cons ev rest ih =>
    intro r
    have hadvance : (advanceTo tBlk blockLen numOut ev.2 r).carried.st.replies = r.st.replies := by
      unfold advanceTo
      split
      · rfl
      · exact Effect.andThen_carried (fun u : Rendering => u.st.replies = r.st.replies)
          (renderRange_frame ..).replies (fun _ h => h)
    exact Effect.andThen_carried (fun u : Rendering => u.st.replies = r.st.replies) hadvance
      (fun u hu => (ih _).trans ((applyWord_replies ev.1 u.st).trans hu))

/-! ## Counting process commands (R205, R206) -/

/-- How often the engine has been clocked. -/
def State.clocked (s : State) : Nat := s.trace.count .process

theorem emit_clocked (cmd : EngineCmd) (hcmd : cmd ≠ .process) (s : State) :
    (emit cmd s).clocked = s.clocked := by
  rcases emit_cases cmd s with ⟨-, heq⟩ | ⟨-, heq⟩ <;> rw [heq]
  simp [State.clocked, hcmd]

theorem emit_process_clocked {s : State} (h : s.e.active = true) :
    (emit .process s).clocked = s.clocked + 1 := by
  simp [State.clocked, h]

theorem updateVolume_clocked (c : Chan) (v : Nat) (s : State) :
    (updateVolume c v s).clocked = s.clocked := by
  unfold updateVolume
  split
  · rfl
  · exact emit_clocked (.setVolume c v) nofun s

/-- The volumes of the stride are no process commands (R207). -/
theorem strideRecompute_clocked (t : Rat) (s : State) :
    (strideRecompute t s).carried.clocked = s.clocked := by
  refine Effect.forEach_carried (fun u => u.clocked = s.clocked) (fun c u hu => ?_) _ s rfl
  unfold strideChannel
  split
  · split
    · exact (updateVolume_clocked c _ u).trans hu
    · exact hu
  · exact hu

theorem clockEngine_clocked (numOut i : Nat) {r : Rendering} (h : r.st.e.active = true) :
    (clockEngine numOut i r).st.clocked = r.st.clocked + 1 :=
  (emit_clocked .removeDc nofun _).trans (emit_process_clocked h)

/-- A sample that is not refused clocks the engine once (R206). -/
theorem renderSample_clocked {tBlk : Rat} {numOut i : Nat} {r r' : Rendering}
    (hactive : r.st.e.active = true) (h : renderSample tBlk numOut i r = .done r') :
    r'.st.clocked = r.st.clocked + 1 := by
  unfold renderSample at h
  split at h
  · split at h
    next s heq =>
      cases h
      have hframe := strideRecompute_frame (sampleTime tBlk i r.st) r.st
      have hclocked := strideRecompute_clocked (sampleTime tBlk i r.st) r.st
      rw [Effect.carried_of_done heq] at hframe hclocked
      have hs : s.e.active = true := by rw [hframe.e, hactive]
      rw [clockEngine_clocked numOut i (r := { r with st := s }) hs, hclocked]
    next => cases h
  · cases h
    exact clockEngine_clocked numOut i hactive

theorem renderSamples_clocked {tBlk : Rat} {numOut : Nat} (count : Nat) :
    ∀ {a : Nat} {r r' : Rendering}, r.st.e.active = true →
      renderSamples tBlk numOut count a r = .done r' → r'.st.clocked = r.st.clocked + count := by
  induction count with
  | zero =>
    intro a r r' _ h
    cases h
    rfl
  | succ count ih =>
    intro a r r' hactive h
    obtain ⟨u, hsample, hrest⟩ := Effect.andThen_eq_done h
    have hframe := renderSample_frame tBlk numOut a r
    rw [Effect.carried_of_done hsample] at hframe
    have hu : u.st.e.active = true := by rw [hframe.e, hactive]
    rw [ih hu hrest, renderSample_clocked hactive hsample]
    omega

/-- A range that is not skipped clocks the engine once a sample, a skipped one never (R205). -/
theorem renderRange_clocked {tBlk : Rat} {numOut a b : Nat} {r r' : Rendering}
    (h : renderRange tBlk numOut a b r = .done r') : r'.st.clocked = r.st.clocked +
      if r.st.e.active && r.st.anyNoteOn then b - a else 0 := by
  unfold renderRange at h
  split at h
  next hempty =>
    cases h
    simp [Nat.sub_eq_zero_of_le hempty]
  next =>
    split at h
    next hskip =>
      cases h
      have hquiet : ¬ (r.st.e.active && r.st.anyNoteOn) = true := by
        simpa [State.skips, or_iff_not_imp_left] using hskip
      rw [if_neg hquiet, Nat.add_zero]
    next hrender =>
      have hsounds : r.st.e.active = true ∧ r.st.anyNoteOn = true := by simpa [State.skips] using hrender
      rw [renderSamples_clocked _ hsounds.1 h]
      simp [hsounds]

/-- What a range appends to the trace, with its process commands counted. -/
theorem renderRange_segment {tBlk : Rat} {numOut a b : Nat} {r r' : Rendering}
    (h : renderRange tBlk numOut a b r = .done r') : ∃ seg, r'.st.trace = r.st.trace ++ seg ∧
      seg.count .process = if r.st.e.active && r.st.anyNoteOn then b - a else 0 := by
  obtain ⟨seg, hseg⟩ := (renderRange_done_frame h).grows
  have hclocked := renderRange_clocked h
  rw [State.clocked, ← hseg, List.count_append] at hclocked
  exact ⟨seg, hseg.symm, Nat.add_left_cancel hclocked⟩

/-! ## The whole command -/

/-- A RENDER that is not refused had an accepted list, and went through it to the end of the block. -/
theorem renderBlock_done {n numOut : Nat} {events : List TimedEvent} {prior : Buffer} {s : State}
    (h : (renderBlock n numOut events prior s).refused = none) :
    offsetsOrdered events = true ∧
      ∃ r, renderEvents s.e.elapsed n numOut events { st := s, cursor := 0, out := prior } = .done r ∧
        renderBlock n numOut events prior s = (advanceElapsed n r.st).pushReply (.buffer r.out) := by
  unfold renderBlock at h ⊢
  split at h
  next => cases h
  next hordered =>
    split at h
    next => cases h
    next hgood =>
      rw [if_neg hordered, if_neg hgood]
      refine ⟨Bool.not_eq_false _ ▸ hordered, ?_⟩
      cases hevents : renderEvents s.e.elapsed n numOut events { st := s, cursor := 0, out := prior } with
      | done r => exact ⟨r, rfl, rfl⟩
      | raised why r => rw [hevents] at h; cases h

/-- The end of a RENDER writes the elapsed time and the replies only (R212). -/
theorem advanceElapsed_frame (blockLen : Nat) (s : State) :
    advanceElapsed blockLen s = { s with e := (advanceElapsed blockLen s).e } := by
  unfold advanceElapsed
  split <;> rfl

/-- The event loop keeps the mode and the configuration, and hands out nothing. -/
theorem eventLoop_done_frame {tBlk : Rat} {blockLen numOut : Nat} {events : List TimedEvent}
    {r r' : Rendering} (h : eventLoop tBlk blockLen numOut events r = .done r') :
    r'.st.cfg = r.st.cfg ∧ r'.st.e.active = r.st.e.active ∧ r'.st.replies = r.st.replies := by
  have hemits := eventLoop_emits tBlk blockLen numOut events r
  have hreplies := eventLoop_replies tBlk blockLen numOut events r
  rw [Effect.carried_of_done h] at hemits hreplies
  exact ⟨hemits.cfg, hemits.active, hreplies⟩

/-- Settles O49: the loop is cut in front of the event and behind it, and each range is counted. -/
theorem eventsAreSampleAccurate : Obligations.EventsAreSampleAccurate := by
  unfold Obligations.EventsAreSampleAccurate
  intro n numOut off w pre post prior s t hexec hmark
  cases hexec
  obtain ⟨hordered, r4, hrender, hend⟩ := renderBlock_done hmark
  obtain ⟨r3, hloop, htrailing⟩ := Effect.andThen_eq_done hrender
  have hsplit := hloop
  rw [eventLoop_append] at hsplit
  obtain ⟨r1, hpre, hfrom⟩ := Effect.andThen_eq_done hsplit
  have hcursor : r1.cursor = min (lastOffset pre) n := eventLoop_cursor pre (Nat.zero_le n) hpre
  have hle : r1.cursor ≤ min off n := hcursor ▸ min_le_min_right n (lastOffset_le_of_ordered hordered)
  obtain ⟨r2, hrange, hpost⟩ := eventLoop_cons_done (hle.trans (min_le_right _ _)) hfrom
  obtain ⟨seg, hseg, hsegCount⟩ := renderRange_segment hrange
  obtain ⟨u, htail, hr4⟩ := Effect.andThen_eq_done htrailing
  obtain ⟨tail, htailTrace, htailCount⟩ := renderRange_segment htail
  obtain ⟨hcfg1, hactive1, -⟩ := eventLoop_done_frame hpre
  obtain ⟨-, hactive3, hreplies3⟩ := eventLoop_done_frame hloop
  have hcfg2 : r2.st.cfg = s.cfg := (renderRange_done_frame hrange).cfg.trans hcfg1
  have hreplies4 : u.st.replies = s.replies := (renderRange_done_frame htail).replies.trans hreplies3
  cases hr4
  refine ⟨r1, r2, r3, _, seg, tail, hpre, hcursor, hle, hrange, ?_, hseg, ?_, ?_, hpost, htrailing, rfl,
    htailTrace, ?_, ?_⟩
  · intro heq
    rw [renderRange_empty heq.ge] at hrange
    cases hrange
    rfl
  · rw [hsegCount, hactive1]
  · rw [← hcfg2]
    exact exec_decodeEvent w r2.st
  · rw [htailCount, hactive3]
  · rw [hend, advanceElapsed_frame]
    exact ⟨rfl, rfl, rfl, rfl, congrArg (· ++ _) hreplies4⟩

end Sys2Proof.Machine
end

section
/-! SUPPORT. What STATE_SAVE writes: every field of the layout stands in the blob at its offset, because the
fields of a layout do not overlap (spec/20_memory.md R74 to R79, spec/43_host.md R246). -/

namespace Sys2Proof.Machine

open Sys2Proof

/-! ## Where the fields lie (R78) -/

/-- The field f lies in front of the field g and does not overlap it. -/
def Field.Before (f g : Field) : Prop := f.offset + 4 ≤ g.offset

theorem Chan.num_le (c : Chan) : c.num ≤ 2 := by cases c <;> decide

theorem PtIdx.num_le (k : PtIdx) : k.num ≤ 5 := by cases k <;> decide

/-- A field lies inside the full layout, on a word boundary. -/
theorem Field.offset_spec (f : Field) : f.offset + 4 ≤ 208 ∧ f.offset % 4 = 0 := by
  cases f with
  | mixer c | volume c | pan c | numPoints c =>
    have := Chan.num_le c
    simp only [Field.offset]
    omega
  | envPeriod | envShape | noisePeriod | clockRate => decide
  | time c k | ratio c k =>
    have := Chan.num_le c
    have := PtIdx.num_le k
    simp only [Field.offset]
    omega

theorem mem_allFields (f : Field) : f ∈ allFields := by
  cases f with
  | mixer c | volume c | pan c | numPoints c => cases c <;> decide
  | envPeriod | envShape | noisePeriod | clockRate => decide
  | time c k | ratio c k => cases c <;> cases k <;> decide

theorem mem_fieldsWithin {len : Nat} {f : Field} : f ∈ fieldsWithin len ↔ f.offset + 4 ≤ len := by
  simp [fieldsWithin, mem_allFields]

/-- The table of R78 lists the fields from front to back, each behind the one before it. -/
theorem allFields_pairwise : allFields.Pairwise Field.Before := by
  have hchain : allFields.IsChain Field.Before := by unfold Field.Before; decide
  have : IsTrans Field Field.Before := ⟨fun f g h hfg hgh => by unfold Field.Before at *; omega⟩
  exact hchain.pairwise

/-! ## Writing fields into a blob (R77) -/

/-- The blob b with the fields fs of the state s written into it, in order. -/
def writeFields (s : State) (fs : List Field) (b : List Byte) : List Byte :=
  fs.foldl (fun b f => memWrite32 b f.offset (f.read s)) b

theorem saveBlob_eq (len : Nat) (s : State) :
    saveBlob len s = writeFields s (fieldsWithin len) (List.replicate len 0) := rfl

theorem writeFields_concat (s : State) (fs : List Field) (g : Field) (b : List Byte) :
    writeFields s (fs ++ [g]) b = memWrite32 (writeFields s fs b) g.offset (g.read s) := by
  simp [writeFields]

theorem length_writeFields (s : State) (fs : List Field) (b : List Byte) :
    (writeFields s fs b).length = b.length := by
  induction fs using List.reverseRecOn with
  | nil => rfl
  | append_singleton fs g ih => rw [writeFields_concat, length_memWrite32, ih]

/-- Of fields written from front to back, the last one reads as written, and those before it are not
touched by its write. -/
theorem memRead32_writeFields (s : State) {fs : List Field} {b : List Byte}
    (hapart : fs.Pairwise Field.Before) (hfits : ∀ f ∈ fs, f.offset + 4 ≤ b.length) :
    ∀ f ∈ fs, memRead32 (writeFields s fs b) f.offset = f.read s := by
  induction fs using List.reverseRecOn with
  | nil => simp
  | append_singleton fs g ih =>
    obtain ⟨hfs, -, hbefore⟩ := List.pairwise_append.mp hapart
    have hg : g.offset + 4 ≤ (writeFields s fs b).length := by
      rw [length_writeFields]
      exact hfits g (by simp)
    intro f hf
    rw [writeFields_concat]
    rcases List.mem_append.mp hf with hmem | hlast
    · rw [memRead32_memWrite32_ne _ _ _ _ hg (.inl (hbefore f hmem g (by simp)))]
      exact ih hfs (fun f' h' => hfits f' (by simp [h'])) f hmem
    · obtain rfl := List.mem_singleton.mp hlast
      exact memRead32_memWrite32 _ _ _ hg

/-! ## The blob of STATE_SAVE (R246) -/

theorem length_saveBlob (len : Nat) (s : State) : (saveBlob len s).length = len := by
  rw [saveBlob_eq, length_writeFields, List.length_replicate]

/-- Every field of the layout stands in the blob at its offset. -/
theorem memRead32_saveBlob {len : Nat} {f : Field} (s : State) (h : f.offset + 4 ≤ len) :
    memRead32 (saveBlob len s) f.offset = f.read s :=
  memRead32_writeFields s (allFields_pairwise.filter _)
    (fun g hg => by simpa using mem_fieldsWithin.mp hg) f (mem_fieldsWithin.mpr h)

/-- A word read at off is made of the bytes off to off + 3, the least significant first (R75). -/
theorem lo4_memRead32 (b : List Byte) (off : Nat) {j : Nat} (hj : j < 4) :
    lo4 (memRead32 b off) j = b.getD (off + j) 0 := by
  apply BitVec.eq_of_getLsbD_eq
  intro i hi
  unfold lo4 memRead32
  simp only [BitVec.getLsbD_extractLsb', BitVec.getLsbD_append]
  interval_cases j <;> grind

/-- Byte j of a field of the layout stands at offset + j. -/
theorem saveBlob_getElem? {len : Nat} {f : Field} (s : State) (h : f.offset + 4 ≤ len) {j : Nat}
    (hj : j < 4) : (saveBlob len s)[f.offset + j]? = some ((f.read s).extractLsb' (8 * j) 8) := by
  have hin : f.offset + j < (saveBlob len s).length := by rw [length_saveBlob]; omega
  have hbyte := lo4_memRead32 (saveBlob len s) f.offset hj
  rw [memRead32_saveBlob s h, List.getD_eq_getElem _ _ hin] at hbyte
  rw [List.getElem?_eq_getElem hin, ← hbyte]
  rfl

/-- Settles O56: the fields of either layout lie apart, so each reads in the blob as it was written. -/
theorem stateSaveWritesEveryField : Obligations.StateSaveWritesEveryField := by
  unfold Obligations.StateSaveWritesEveryField
  intro s layout
  have hfull : ∀ f : Field, f.offset + 4 ≤ 208 := fun f => f.offset_spec.1
  have hlegacy : ∀ f : Field, f.offset < 52 → f.offset + 4 ≤ 52 := fun f hf => by
    have := f.offset_spec
    omega
  refine ⟨⟨saveBlob 208 s, rfl, length_saveBlob 208 s, fun f => memRead32_saveBlob s (hfull f),
      fun f j hj => saveBlob_getElem? s (hfull f) hj⟩,
    ⟨saveBlob 52 s, rfl, length_saveBlob 52 s, fun f hf => memRead32_saveBlob s (hlegacy f hf),
      fun f j hf hj => saveBlob_getElem? s (hlegacy f hf) hj⟩, fun h => ?_⟩
  match layout, h with
  | _ + 2, _ => rfl

end Sys2Proof.Machine
end

section
/-! SUPPORT. Rendering a range part by part, and the slots it leaves alone (spec/20_memory.md R73,
spec/42_renderer.md R205, R206). -/

namespace Sys2Proof.Machine

open Sys2Proof

/-! ## A range, part by part -/

/-- An empty range is a range of no samples, so the skip test alone decides (R205). -/
theorem renderRange_eq (tBlk : Rat) (numOut a b : Nat) (r : Rendering) :
    renderRange tBlk numOut a b r =
      if r.st.skips then .done r else renderSamples tBlk numOut (b - a) a r := by
  unfold renderRange
  split
  next hempty =>
    rw [Nat.sub_eq_zero_of_le hempty]
    exact (ite_self _).symm
  next => rfl

theorem renderRange_skipped {r : Rendering} (h : r.st.skips = true) (tBlk : Rat) (numOut a b : Nat) :
    renderRange tBlk numOut a b r = .done r := by
  rw [renderRange_eq, if_pos h]

theorem renderRange_rendered {r : Rendering} (h : r.st.skips = false) (tBlk : Rat) (numOut a b : Nat) :
    renderRange tBlk numOut a b r = renderSamples tBlk numOut (b - a) a r := by
  simp [renderRange_eq, h]

/-- A block that is inactive, or in which no channel is note-on, skips its ranges (R205). -/
theorem State.skips_of_quiet {s : State} (h : s.e.active = false ∨ ∀ d, (s.rt.get d).noteOn = false) :
    s.skips = true := by
  rcases h with hinactive | hsilent
  · simp [State.skips, hinactive]
  · have h0 : s.rt.ch0.noteOn = false := hsilent .ch0
    have h1 : s.rt.ch1.noteOn = false := hsilent .ch1
    have h2 : s.rt.ch2.noteOn = false := hsilent .ch2
    simp [State.skips, State.anyNoteOn, h0, h1, h2]

theorem renderSamples_add (tBlk : Rat) (numOut m n : Nat) :
    ∀ (a : Nat) (r : Rendering), renderSamples tBlk numOut (m + n) a r =
      (renderSamples tBlk numOut m a r).andThen (renderSamples tBlk numOut n (a + m)) := by
  induction m with
  | zero => intro a r; simp [renderSamples]
  | succ m ih =>
    intro a r
    rw [show m + 1 + n = (m + n) + 1 by omega, show a + (m + 1) = a + 1 + m by omega]
    simp only [renderSamples, Effect.andThen_assoc]
    congr 1
    funext u
    exact ih (a + 1) u

/-- The second part makes the skip test again, and rendering the first part does not change its outcome. -/
theorem renderRange_split (tBlk : Rat) (numOut : Nat) {a b c : Nat} (hab : a ≤ b) (hbc : b ≤ c)
    (r : Rendering) : renderRange tBlk numOut a c r =
      (renderRange tBlk numOut a b r).andThen (renderRange tBlk numOut b c) := by
  cases hskip : r.st.skips with
  | true => simp [renderRange_skipped hskip]
  | false =>
    have hwhole : renderRange tBlk numOut a c r =
        (renderRange tBlk numOut a b r).andThen (renderSamples tBlk numOut (c - b) b) := by
      rw [renderRange_rendered hskip, renderRange_rendered hskip, show c - a = (b - a) + (c - b) by omega,
        renderSamples_add, Nat.add_sub_cancel' hab]
    rw [hwhole]
    cases hfirst : renderRange tBlk numOut a b r with
    | raised why u => rfl
    | done u =>
      have hu : u.st.skips = false := (renderRange_done_frame hfirst).skips.trans hskip
      exact (renderRange_rendered hu tBlk numOut b c).symm

/-! ## Slots outside a range (R73) -/

theorem renderSamples_slot (tBlk : Rat) (numOut : Nat) (count : Nat) {k i : Nat} :
    ∀ (a : Nat) (r : Rendering), (i < a ∨ a + count ≤ i) →
      (renderSamples tBlk numOut count a r).carried.out.slot k i = r.out.slot k i := by
  induction count with
  | zero => intro a r _; rfl
  | succ count ih =>
    intro a r hout
    exact Effect.andThen_carried (fun u : Rendering => u.out.slot k i = r.out.slot k i)
      (renderSample_slot tBlk numOut r k (by omega)) (fun u hu => (ih (a + 1) u (by omega)).trans hu)

theorem renderRange_slot (tBlk : Rat) (numOut : Nat) {a b : Nat} (hab : a ≤ b) {r : Rendering} {i : Nat}
    (k : Nat) (hout : i < a ∨ b ≤ i ∨ r.st.skips = true) :
    (renderRange tBlk numOut a b r).carried.out.slot k i = r.out.slot k i := by
  cases hskip : r.st.skips with
  | true => rw [renderRange_skipped hskip]; rfl
  | false =>
    have hrange : i < a ∨ b ≤ i := by simpa [hskip] using hout
    rw [renderRange_rendered hskip]
    exact renderSamples_slot tBlk numOut (b - a) a r (by omega)

/-- Settles O45. -/
theorem renderRangeSplits : Obligations.RenderRangeSplits := by
  unfold Obligations.RenderRangeSplits
  intro tBlk numOut a b c r hab hbc
  refine ⟨renderRange_split tBlk numOut hab hbc r, fun r' hr' k i hout => ?_⟩
  have hcarried : (renderRange tBlk numOut a b r).carried = r' := by
    rcases hr' with h | ⟨why, h⟩ <;> rw [h] <;> rfl
  rw [← hcarried]
  exact renderRange_slot tBlk numOut hab k (hout.imp_right (Or.imp_right State.skips_of_quiet))

end Sys2Proof.Machine
end

section
/-! SUPPORT. A RENDER over finite breakpoints: no evaluation is refused, so the block is rendered to its end,
and what it leaves alone (spec/40_envelope.md R149, spec/42_renderer.md R200 to R212). -/

namespace Sys2Proof.Machine

open Sys2Proof

/-! ## Parts that complete -/

/-- The part is done, not refused, and what it hands on has the property P. -/
def Effect.Completes {α : Type} (x : Effect α) (P : α → Prop) : Prop := ∃ a, x = .done a ∧ P a

theorem Effect.completes_done {α : Type} {P : α → Prop} {a : α} (h : P a) : (Effect.done a).Completes P :=
  ⟨a, rfl, h⟩

theorem Effect.Completes.andThen {α : Type} {P Q : α → Prop} {x : Effect α} {f : α → Effect α}
    (hx : x.Completes P) (hf : ∀ a, P a → (f a).Completes Q) : (x.andThen f).Completes Q := by
  obtain ⟨a, rfl, ha⟩ := hx
  exact hf a ha

theorem Effect.Completes.forEach {α β : Type} {P : α → Prop} {f : β → α → Effect α}
    (hf : ∀ b a, P a → (f b a).Completes P) (bs : List β) :
    ∀ a, P a → (Effect.forEach f bs a).Completes P := by
  induction bs with
  | nil => exact fun a h => completes_done h
  | cons b rest ih => exact fun a h => (hf b a h).andThen ih

/-! ## Evaluating a form of finite breakpoints (R140 to R149) -/

/-- Both fields of a breakpoint are finite (R149). -/
def Point.Finite (p : Point) : Prop := F32.isFinite p.time = true ∧ F32.isFinite p.ratio = true

theorem F32.val_of_finite {x : F32} (h : F32.isFinite x = true) : F32.val x = some (F32.finiteVal x) :=
  if_pos h

theorem readRatio_of_finite {p : Point} (h : Point.Finite p) : readRatio p = .ok (F32.finiteVal p.ratio) := by
  rw [readRatio, F32.val_of_finite h.2]

theorem segmentRatio_of_finite (e ti : Rat) {prev : Option (Rat × Point)} {p : Point} (hp : Point.Finite p)
    (hprev : ∀ q ∈ prev, Point.Finite q.2) : ∃ r, segmentRatio e prev ti p = .ok r := by
  cases prev with
  | none => exact ⟨_, by rw [segmentRatio, readRatio_of_finite hp]⟩
  | some q => exact ⟨_, by rw [segmentRatio, readRatio_of_finite hp, readRatio_of_finite (hprev q rfl)]⟩

/-- The scan has a value once there is a breakpoint to select or to hold. -/
theorem scan_of_finite (e : Rat) (pts : List Point) :
    ∀ prev : Option (Rat × Point), (∀ p ∈ pts, Point.Finite p) → (∀ q ∈ prev, Point.Finite q.2) →
      (prev = none → pts ≠ []) → ∃ r, scan e prev pts = .ok r := by
  induction pts with
  | nil =>
    intro prev _ hprev hsome
    cases prev with
    | none => exact absurd rfl (hsome rfl)
    | some q => exact ⟨_, readRatio_of_finite (hprev q rfl)⟩
  | cons p rest ih =>
    intro prev hpts hprev _
    obtain ⟨hp, hrest⟩ := List.forall_mem_cons.mp hpts
    rw [scan, F32.val_of_finite hp.1]
    dsimp only
    split
    · exact segmentRatio_of_finite e _ hp hprev
    · exact ih (some (F32.finiteVal p.time, p)) hrest (by simpa using hp) nofun

/-- A note-on channel that the stride visits has a ratio, if the stored breakpoints are finite. -/
theorem ratio_of_formsFinite {s : State} (h : s.formsFinite) (e : Rat) {c : Chan}
    (hcount : 0 < effCount (s.ch.get c).numPoints) : ∃ r, ratio e (form (s.ch.get c)) = .ok r := by
  refine scan_of_finite e _ none (fun p hp => ?_) nofun (fun _ hnil => ?_)
  · obtain ⟨k, rfl⟩ := Points.mem_toList.mp (List.mem_of_mem_take hp)
    exact h c k
  · rcases List.take_eq_nil_iff.mp hnil with hzero | hempty
    · omega
    · cases hempty

/-! ## Events keep the breakpoints finite (R176, R177) -/

theorem toF32_finite {q : Rat} (h0 : 0 ≤ q) (h1 : q ≤ 128) : F32.isFinite (toF32 q) = true := by
  refine (toF32IsNearest q ?_).1
  rw [abs_of_nonneg h0]
  exact h1.trans (by norm_num)

theorem decTime_finite (v : BitVec 7) : F32.isFinite (decTime v) = true := by
  have hv : (v.toNat : Rat) ≤ 127 := by exact_mod_cast Nat.le_of_lt_succ v.isLt
  exact toF32_finite (by positivity) (by nlinarith)

theorem decRatio_finite (v : BitVec 7) : F32.isFinite (decRatio v) = true := by
  have hv : (v.toNat : Rat) ≤ 127 := by exact_mod_cast Nat.le_of_lt_succ v.isLt
  unfold decRatio
  split <;> exact toF32_finite (by positivity) (by linarith)

theorem State.formsFinite.of_ch {s t : State} (h : s.formsFinite) (hch : t.ch = s.ch) : t.formsFinite := by
  unfold State.formsFinite
  rw [hch]
  exact h

theorem State.formsFinite.emit {s : State} (h : s.formsFinite) (cmd : EngineCmd) : (emit cmd s).formsFinite :=
  h.of_ch (emit_ch cmd s)

theorem State.formsFinite.setCh {s : State} (h : s.formsFinite) (c : Chan) {ch : Channel}
    (hch : ∀ k, Point.Finite (ch.pts.get k)) : (s.setCh c ch).formsFinite := by
  intro d k
  rw [State.setCh_ch, PerCh.get_set]
  split
  · exact hch k
  · exact h d k

/-- Storing a finite breakpoint. -/
theorem State.formsFinite.setPoint {s : State} (h : s.formsFinite) (c : Chan) (k : PtIdx) {p : Point}
    (hp : Point.Finite p) :
    (s.setCh c { s.ch.get c with pts := (s.ch.get c).pts.set k p }).formsFinite := by
  refine h.setCh c (fun j => ?_)
  dsimp only
  rw [Points.get_set]
  split
  · exact hp
  · exact h c j

theorem writeTime_formsFinite {s : State} (h : s.formsFinite) (c : Chan) (k : PtIdx) (v : BitVec 7) :
    (writeTime c k v s).formsFinite :=
  h.setPoint c k ⟨decTime_finite v, (h c k).2⟩

theorem writeRatio_formsFinite {s : State} (h : s.formsFinite) (c : Chan) (k : PtIdx) (v : BitVec 7) :
    (writeRatio c k v s).formsFinite :=
  h.setPoint c k ⟨(h c k).1, decRatio_finite v⟩

theorem releaseVoice_ch (c : Chan) (s : State) : (releaseVoice c s).ch = s.ch := by
  unfold releaseVoice
  split
  · rfl
  · rw [State.setNoteOn_eq, State.setRt_ch, perturbShape_eq]
    exact emit_ch _ s

theorem startVoice_ch (c : Chan) (key : BitVec 7) (s : State) : (startVoice c key s).ch = s.ch := by
  unfold startVoice
  split
  · rfl
  · simp [emitMixer, State.setNoteOn_eq, State.setStartTime_eq]

/-- Every event keeps the breakpoints finite: only the swenv controllers write them. -/
theorem applyEvent_formsFinite (i : Instr) {s : State} (h : s.formsFinite) :
    (stateAfter (applyEvent i s) s).formsFinite := by
  cases i with
  | noteOn c key _ => exact h.of_ch (startVoice_ch c key s)
  | noteOff c _ _ | noteOnV0 c _ => exact h.of_ch (releaseVoice_ch c s)
  | programChange c _ _ =>
    refine State.formsFinite.emit (State.formsFinite.emit ?_ _) _
    exact State.formsFinite.setCh h c (h c)
  | ccBank c _ | ccVolume c _ | ccPan c _ =>
    refine State.formsFinite.emit ?_ _
    exact State.formsFinite.setCh h c (h c)
  | ccEshape | ccEperH | ccEperM | ccEperL | ccDcReset =>
    refine State.formsFinite.emit ?_ _
    exact h
  | ccSwenvCount c _ => exact State.formsFinite.setCh h c (h c)
  | ccSwenvTime0 c v | ccSwenvTime1 c v | ccSwenvTime2 c v | ccSwenvTime3 c v | ccSwenvTime4 c v
  | ccSwenvTime5 c v => exact writeTime_formsFinite h c _ v
  | ccSwenvRatio0 c v | ccSwenvRatio1 c v | ccSwenvRatio2 c v | ccSwenvRatio3 c v | ccSwenvRatio4 c v
  | ccSwenvRatio5 c v => exact writeRatio_formsFinite h c _ v
  | _ => exact h

/-! ## Samples over finite breakpoints complete (R206, R207) -/

theorem strideChannel_completes (t : Rat) (c : Chan) (s : State) (h : s.formsFinite) :
    (strideChannel t c s).Completes State.formsFinite := by
  unfold strideChannel
  split
  next hvisit =>
    obtain ⟨-, hcount⟩ := hvisit
    obtain ⟨r, hr⟩ := ratio_of_formsFinite h (t - (s.rt.get c).startTime) hcount
    rw [hr]
    exact Effect.completes_done (h.of_ch (updateVolume_frame ..).ch)
  next => exact Effect.completes_done h

theorem strideRecompute_completes (t : Rat) {s : State} (h : s.formsFinite) :
    (strideRecompute t s).Completes State.formsFinite :=
  Effect.Completes.forEach (strideChannel_completes t) _ s h

theorem renderSample_completes (tBlk : Rat) (numOut i : Nat) {r : Rendering} (h : r.st.formsFinite) :
    (renderSample tBlk numOut i r).Completes (fun u => u.st.formsFinite) := by
  unfold renderSample
  split
  · obtain ⟨s, hs, hfinite⟩ := strideRecompute_completes (sampleTime tBlk i r.st) h
    rw [hs]
    exact Effect.completes_done (hfinite.of_ch (clockEngine_frame numOut i { r with st := s }).ch)
  · exact Effect.completes_done (h.of_ch (clockEngine_frame numOut i r).ch)

theorem renderSamples_completes (tBlk : Rat) (numOut count : Nat) :
    ∀ (a : Nat) (r : Rendering), r.st.formsFinite →
      (renderSamples tBlk numOut count a r).Completes (fun u => u.st.formsFinite) := by
  induction count with
  | zero => exact fun _ _ h => Effect.completes_done h
  | succ count ih => exact fun a _ h => (renderSample_completes tBlk numOut a h).andThen (ih (a + 1))

theorem renderRange_completes (tBlk : Rat) (numOut a b : Nat) {r : Rendering} (h : r.st.formsFinite) :
    (renderRange tBlk numOut a b r).Completes (fun u => u.st.formsFinite) := by
  rw [renderRange_eq]
  split
  · exact Effect.completes_done h
  · exact renderSamples_completes tBlk numOut _ a r h

/-! ## Output channels a range leaves alone (R73, R211) -/

theorem outputCopy_channel {numOut k : Nat} (hk : min numOut 2 ≤ k) (i : Nat) (left right : Sample)
    (out : Buffer) : (outputCopy numOut i left right out)[k]? = out[k]? := by
  match numOut with
  | 0 => rfl
  | 1 => exact writeSlot_other out i _ (by omega)
  | _ + 2 => exact (writeSlot_other _ i _ (by omega)).trans (writeSlot_other out i _ (by omega))

theorem renderSample_channel (tBlk : Rat) {numOut k : Nat} (hk : min numOut 2 ≤ k) (i : Nat) (r : Rendering) :
    (renderSample tBlk numOut i r).carried.out[k]? = r.out[k]? := by
  unfold renderSample
  split
  · split
    · exact outputCopy_channel hk ..
    · rfl
  · exact outputCopy_channel hk ..

theorem renderSamples_channel (tBlk : Rat) {numOut k : Nat} (hk : min numOut 2 ≤ k) (count : Nat) :
    ∀ (a : Nat) (r : Rendering), (renderSamples tBlk numOut count a r).carried.out[k]? = r.out[k]? := by
  induction count with
  | zero => exact fun _ _ => rfl
  | succ count ih =>
    intro a r
    exact Effect.andThen_carried (fun u : Rendering => u.out[k]? = r.out[k]?)
      (renderSample_channel tBlk hk a r) (fun u hu => (ih (a + 1) u).trans hu)

theorem renderRange_channel (tBlk : Rat) {numOut k : Nat} (hk : min numOut 2 ≤ k) (a b : Nat)
    (r : Rendering) : (renderRange tBlk numOut a b r).carried.out[k]? = r.out[k]? := by
  rw [renderRange_eq]
  split
  · rfl
  · exact renderSamples_channel tBlk hk _ a r

/-! ## What a RENDER in progress leaves alone (R51) -/

/-- t is s but for what events and samples may change. -/
structure RenderFrame (s t : State) : Prop where
  refused : t.refused = s.refused
  clockRate : t.g.clockRate = s.g.clockRate
  e : t.e = { s.e with pitchBend := t.e.pitchBend }
  v : t.v = s.v
  cfg : t.cfg = s.cfg
  pending : t.pending = s.pending
  replies : t.replies = s.replies

theorem RenderFrame.refl (s : State) : RenderFrame s s := ⟨rfl, rfl, rfl, rfl, rfl, rfl, rfl⟩

theorem RenderFrame.trans {s t u : State} (h : RenderFrame s t) (k : RenderFrame t u) : RenderFrame s u :=
  ⟨k.refused.trans h.refused, k.clockRate.trans h.clockRate, by rw [k.e, h.e], k.v.trans h.v,
    k.cfg.trans h.cfg, k.pending.trans h.pending, k.replies.trans h.replies⟩

theorem SampleFrame.renderFrame {s t : State} (h : SampleFrame s t) : RenderFrame s t := by
  rw [h.rest]
  exact ⟨rfl, rfl, rfl, rfl, rfl, rfl, rfl⟩

theorem applyWord_renderFrame {w : EventWord} {s : State}
    (hgood : (decodeEvent s.cfg.ccmap w).isDataBit7 = false) : RenderFrame s (applyWord w s) := by
  obtain ⟨hrefused, hclock, hactive, hrate, helapsed, hv, -, hcfg, hpending, hreplies⟩ :=
    State.untouched_iff.mp (applyEvent_untouched hgood s)
  refine ⟨hrefused, hclock, ?_, hv, hcfg, hpending, hreplies⟩
  simp only [← hactive, ← hrate, ← helapsed]
  rfl

/-- How far a RENDER that began in the state s with the buffer prior, over finite breakpoints, has come. -/
structure RenderProgress (numOut : Nat) (s : State) (prior : Buffer) (r : Rendering) : Prop where
  frame : RenderFrame s r.st
  finite : r.st.formsFinite
  shape : r.out.map List.length = prior.map List.length
  channels : ∀ k, min numOut 2 ≤ k → r.out[k]? = prior[k]?
  inactive : s.e.active = false → r.out = prior

section
variable {numOut : Nat} {s : State} {prior : Buffer} {r : Rendering}

theorem RenderProgress.setCursor (h : RenderProgress numOut s prior r) (cursor : Nat) :
    RenderProgress numOut s prior { r with cursor := cursor } :=
  ⟨h.frame, h.finite, h.shape, h.channels, h.inactive⟩

theorem RenderProgress.active (h : RenderProgress numOut s prior r) : r.st.e.active = s.e.active := by
  rw [h.frame.e]

theorem RenderProgress.applyWord (h : RenderProgress numOut s prior r) {w : EventWord}
    (hgood : (decodeEvent s.cfg.ccmap w).isDataBit7 = false) :
    RenderProgress numOut s prior { r with st := applyWord w r.st } := by
  rw [← h.frame.cfg] at hgood
  exact ⟨h.frame.trans (applyWord_renderFrame hgood), applyEvent_formsFinite _ h.finite, h.shape,
    h.channels, h.inactive⟩

theorem renderRange_progress (h : RenderProgress numOut s prior r) (tBlk : Rat) (a b : Nat) :
    (renderRange tBlk numOut a b r).Completes (RenderProgress numOut s prior) := by
  obtain ⟨u, hu, hfinite⟩ := renderRange_completes tBlk numOut a b h.finite
  have hcarried := Effect.carried_of_done hu
  refine ⟨u, hu, h.frame.trans (renderRange_done_frame hu).renderFrame, hfinite, ?_, fun k hk => ?_,
    fun hinactive => ?_⟩
  · rw [← hcarried]
    exact (renderRange_shape ..).trans h.shape
  · rw [← hcarried]
    exact (renderRange_channel tBlk hk a b r).trans (h.channels k hk)
  · have hskip : r.st.skips = true := State.skips_of_quiet (.inl (h.active.trans hinactive))
    rw [renderRange_skipped hskip] at hu
    cases hu
    exact h.inactive hinactive

theorem advanceTo_progress (h : RenderProgress numOut s prior r) (tBlk : Rat) (blockLen off : Nat) :
    (advanceTo tBlk blockLen numOut off r).Completes (RenderProgress numOut s prior) := by
  unfold advanceTo
  split
  · exact Effect.completes_done h
  · exact (renderRange_progress h tBlk _ _).andThen (fun u hu => Effect.completes_done (hu.setCursor _))

end

theorem eventLoop_progress {numOut : Nat} {s : State} {prior : Buffer} (tBlk : Rat) (blockLen : Nat)
    {events : List TimedEvent} (hgood : NoBadData s.cfg.ccmap events) :
    ∀ r, RenderProgress numOut s prior r →
      (eventLoop tBlk blockLen numOut events r).Completes (RenderProgress numOut s prior) := by
  induction events with
  | nil => exact fun _ h => Effect.completes_done h
  | cons ev rest ih =>
    intro r h
    obtain ⟨hev, hrest⟩ := List.forall_mem_cons.mp hgood
    exact (advanceTo_progress h tBlk blockLen ev.2).andThen (fun u hu => ih hrest _ (hu.applyWord hev))

theorem renderEvents_progress {numOut : Nat} {s : State} (hfinite : s.formsFinite) (tBlk : Rat)
    (blockLen : Nat) {events : List TimedEvent} (hgood : NoBadData s.cfg.ccmap events) (prior : Buffer) :
    (renderEvents tBlk blockLen numOut events { st := s, cursor := 0, out := prior }).Completes
      (RenderProgress numOut s prior) := by
  have hstart : RenderProgress numOut s prior { st := s, cursor := 0, out := prior } :=
    ⟨.refl s, hfinite, rfl, fun _ _ => rfl, fun _ => rfl⟩
  refine (eventLoop_progress tBlk blockLen hgood _ hstart).andThen (fun r h => ?_)
  exact (renderRange_progress h tBlk _ _).andThen (fun u hu => Effect.completes_done (hu.setCursor _))

/-! ## The whole command -/

theorem offsetsOrdered_of_rise {events : List TimedEvent} (h : OffsetsRise events) :
    offsetsOrdered events = true := by
  refine (offsetsOrdered_iff events).mpr (List.isChain_iff_getElem.mpr (fun i hi => ?_))
  exact h i _ _ (List.getElem?_eq_getElem _) (List.getElem?_eq_getElem hi)

theorem anyDataBit7_of_noBadData {m : CCMap} {events : List TimedEvent} (h : NoBadData m events) :
    anyDataBit7 m events = false := by
  rw [anyDataBit7, List.any_eq_false]
  exact fun ev hev => by simp [h ev hev]

theorem exec_render (n numOut : Nat) (events : List TimedEvent) (prior : Buffer) (s : State) :
    exec (.render n numOut events prior) s = .next (renderBlock n numOut events prior s) := rfl

/-- A RENDER whose list passes the check is its events and samples, and the end of the command (R201). -/
theorem renderBlock_accepted {events : List TimedEvent} {s : State} (hrise : OffsetsRise events)
    (hgood : NoBadData s.cfg.ccmap events) (n numOut : Nat) (prior : Buffer) :
    renderBlock n numOut events prior s = finishRender n
      (renderEvents s.e.elapsed n numOut events { st := s, cursor := 0, out := prior }) := by
  simp [renderBlock, offsetsOrdered_of_rise hrise, anyDataBit7_of_noBadData hgood]

/-- The elapsed time advances while active, and the rest of E stays (R212). -/
theorem advanceElapsed_e (blockLen : Nat) (s : State) : (advanceElapsed blockLen s).e =
    { s.e with elapsed :=
      if s.e.active then s.e.elapsed + (blockLen : Rat) / (s.e.sampleRate : Rat) else s.e.elapsed } := by
  unfold advanceElapsed
  split <;> rfl

/-- Settles O42: over finite breakpoints every range completes, so the RENDER ends with its block rendered. -/
theorem renderCompletes : Obligations.RenderCompletes := by
  unfold Obligations.RenderCompletes
  intro n numOut events prior s hrise hgood hfinite
  obtain ⟨r, hr, h⟩ := renderEvents_progress (numOut := numOut) hfinite s.e.elapsed n hgood prior
  have hexec : exec (.render n numOut events prior) s =
      .next ((advanceElapsed n r.st).pushReply (.buffer r.out)) := by
    rw [exec_render, renderBlock_accepted hrise hgood, hr]
    rfl
  refine ⟨_, r.out, hexec, ?_⟩
  simp only [State.pushReply_refused, State.pushReply_replies, State.pushReply_e, State.pushReply_v,
    State.pushReply_g, State.pushReply_pending, advanceElapsed_e]
  rw [advanceElapsed_frame, h.frame.e]
  refine ⟨h.frame.refused, congrArg (· ++ _) h.frame.replies, rfl, rfl, rfl, h.frame.v, h.frame.clockRate,
    h.frame.pending, h.shape, fun k hk => h.channels k ?_, fun hnone => ?_, fun hmono => ?_, h.inactive⟩
  · exact (min_le_right numOut 2).trans hk
  · exact List.ext_getElem? (fun k => h.channels k (by omega))
  · exact h.channels 1 (by omega)

end Sys2Proof.Machine
end

section
/-! SUPPORT. The fields of an event word (spec/30_encoding.md R100 to R103): every word is its type, its
channel and its two low bytes, and each low byte is a data byte or a malformed one. -/

namespace Sys2Proof

/-! ## Bits as numbers -/

/-- A concatenation is a sum, because the low part lies below the high part. -/
theorem toNat_append_eq_add {m n : Nat} (x : BitVec m) (y : BitVec n) :
    (x ++ y).toNat = x.toNat * 2 ^ n + y.toNat := by
  rw [BitVec.toNat_append, ← Nat.shiftLeft_add_eq_or_of_lt y.isLt, Nat.shiftLeft_eq]

theorem toNat_extractLsb'_eq_mod {n : Nat} (x : BitVec n) (start len : Nat) :
    (x.extractLsb' start len).toNat = x.toNat / 2 ^ start % 2 ^ len := by
  rw [BitVec.extractLsb'_toNat, Nat.shiftRight_eq_div_pow]

theorem getLsbD_eq_decide_mod {n : Nat} (x : BitVec n) (i : Nat) :
    x.getLsbD i = decide (x.toNat / 2 ^ i % 2 = 1) := by
  rw [← BitVec.testBit_toNat, Nat.testBit_eq_decide_div_mod_eq]

/-! ## Codes (R101, R102) -/

theorem EventType.ofCode_eq_some_iff {n : BitVec 4} {t : EventType} :
    EventType.ofCode n = some t ↔ n = t.code := by
  cases t <;> revert n <;> decide

theorem EventType.ofCode_eq_none_iff {n : BitVec 4} :
    EventType.ofCode n = none ↔ n.toNat ∉ [0x8, 0x9, 0xB, 0xC, 0xE] := by
  revert n; decide

theorem Chan.ofCode_eq_some_iff {n : BitVec 4} {c : Chan} : Chan.ofCode n = some c ↔ n = c.code := by
  cases c <;> revert n <;> decide

theorem Chan.ofCode_eq_none_iff {n : BitVec 4} : Chan.ofCode n = none ↔ 3 ≤ n.toNat := by
  revert n; decide

@[simp] theorem EventType.ofCode_code (t : EventType) : EventType.ofCode t.code = some t :=
  EventType.ofCode_eq_some_iff.mpr rfl

@[simp] theorem Chan.ofCode_code (c : Chan) : Chan.ofCode c.code = some c :=
  Chan.ofCode_eq_some_iff.mpr rfl

theorem Chan.code_toNat (c : Chan) : c.code.toNat = c.num := by cases c <;> rfl

/-! ## A word as type, channel and body (R100) -/

/-- The word of a type, a channel field and the 16 bits below them. -/
def statusWord (t ch : BitVec 4) (body : BitVec 16) : EventWord := t ++ ch ++ body

theorem statusWord_toNat (t ch : BitVec 4) (body : BitVec 16) :
    (statusWord t ch body).toNat = t.toNat * 2 ^ 20 + ch.toNat * 2 ^ 16 + body.toNat := by
  simp only [statusWord, toNat_append_eq_add]
  omega

@[simp] theorem statusWord_type (t ch : BitVec 4) (body : BitVec 16) : (statusWord t ch body).type = t := by
  apply BitVec.eq_of_toNat_eq
  rw [EventWord.type, toNat_extractLsb'_eq_mod, statusWord_toNat]
  omega

@[simp] theorem statusWord_chan (t ch : BitVec 4) (body : BitVec 16) :
    (statusWord t ch body).chan = ch := by
  apply BitVec.eq_of_toNat_eq
  rw [EventWord.chan, toNat_extractLsb'_eq_mod, statusWord_toNat]
  omega

@[simp] theorem statusWord_body (t ch : BitVec 4) (body : BitVec 16) :
    (statusWord t ch body).extractLsb' 0 16 = body := by
  apply BitVec.eq_of_toNat_eq
  rw [toNat_extractLsb'_eq_mod, statusWord_toNat]
  omega

theorem statusWord_fields (w : EventWord) : statusWord w.type w.chan (w.extractLsb' 0 16) = w := by
  apply BitVec.eq_of_toNat_eq
  simp only [statusWord_toNat, EventWord.type, EventWord.chan, toNat_extractLsb'_eq_mod]
  omega

/-! ## A word with its two low bytes (R100, R103) -/

theorem packWord_eq_statusWord (t ch : BitVec 4) (b1 b2 : Byte) :
    packWord t ch b1 b2 = statusWord t ch (b1 ++ b2) := by
  apply BitVec.eq_of_toNat_eq
  simp only [packWord, statusWord_toNat, toNat_append_eq_add]
  omega

theorem packWord_toNat (t ch : BitVec 4) (b1 b2 : Byte) : (packWord t ch b1 b2).toNat =
    t.toNat * 2 ^ 20 + ch.toNat * 2 ^ 16 + b1.toNat * 2 ^ 8 + b2.toNat := by
  rw [packWord_eq_statusWord, statusWord_toNat, toNat_append_eq_add, ← Nat.add_assoc]

theorem statusWord_eq_packWord (t ch : BitVec 4) (body : BitVec 16) :
    ∃ b1 b2, statusWord t ch body = packWord t ch b1 b2 := by
  refine ⟨body.extractLsb' 8 8, body.extractLsb' 0 8, ?_⟩
  apply BitVec.eq_of_toNat_eq
  simp only [statusWord_toNat, packWord_toNat, toNat_extractLsb'_eq_mod]
  omega

theorem packWord_d1h (t ch : BitVec 4) (b1 b2 : Byte) :
    (packWord t ch b1 b2).d1h = b1.getLsbD 7 := by
  simp only [EventWord.d1h, getLsbD_eq_decide_mod, packWord_toNat, decide_eq_decide]
  omega

theorem packWord_d1 (t ch : BitVec 4) (b1 b2 : Byte) :
    (packWord t ch b1 b2).d1 = b1.extractLsb' 0 7 := by
  apply BitVec.eq_of_toNat_eq
  simp only [EventWord.d1, toNat_extractLsb'_eq_mod, packWord_toNat]
  omega

theorem packWord_d2h (t ch : BitVec 4) (b1 b2 : Byte) :
    (packWord t ch b1 b2).d2h = b2.getLsbD 7 := by
  simp only [EventWord.d2h, getLsbD_eq_decide_mod, packWord_toNat, decide_eq_decide]
  omega

theorem packWord_d2 (t ch : BitVec 4) (b1 b2 : Byte) :
    (packWord t ch b1 b2).d2 = b2.extractLsb' 0 7 := by
  apply BitVec.eq_of_toNat_eq
  simp only [EventWord.d2, toNat_extractLsb'_eq_mod, packWord_toNat]
  omega

theorem packWord_low (t ch : BitVec 4) (b1 b2 : Byte) :
    (packWord t ch b1 b2).extractLsb' 0 8 = b2 := by
  apply BitVec.eq_of_toNat_eq
  simp only [toNat_extractLsb'_eq_mod, packWord_toNat]
  omega

/-! ## Data bytes (R103) -/

theorem dataByte_zero : dataByte 0 = 0 := by decide

theorem dataByte_toNat (d : BitVec 7) : (dataByte d).toNat = d.toNat := by
  rw [dataByte, toNat_append_eq_add]
  simp

theorem dataByte_bit7 (d : BitVec 7) : (dataByte d).getLsbD 7 = false := by
  revert d; decide

theorem dataByte_bits (d : BitVec 7) : (dataByte d).extractLsb' 0 7 = d :=
  BitVec.extractLsb'_append_eq_right

theorem badByte_bit7 (d : BitVec 7) : (badByte d).getLsbD 7 = true := by
  revert d; decide

theorem badByte_bits (d : BitVec 7) : (badByte d).extractLsb' 0 7 = d :=
  BitVec.extractLsb'_append_eq_right

theorem byte_cases (b : Byte) : (∃ d, b = dataByte d) ∨ ∃ d, b = badByte d := by
  cases h : b.getLsbD 7 with
  | false => refine .inl ⟨b.extractLsb' 0 7, ?_⟩; revert b; decide
  | true => refine .inr ⟨b.extractLsb' 0 7, ?_⟩; revert b; decide

end Sys2Proof
end

section
/-! SUPPORT. Controller numbers (spec/00_scope.md R7, spec/30_encoding.md R105, R106): the rows of the CCMAP as
a table, and that `decodeController` looks a number up in it. -/

namespace Sys2Proof

open Sys2Proof.Machine

/-! ## The table (R105, R106) -/

/-- The rows of R105 and R106 under the CCMAP m: a controller number and the function it selects, the
software-envelope range from place 8 on. -/
def CCMap.rows (m : CCMap) : List (Nat × (Chan → BitVec 7 → Instr)) :=
  [(m.bank, .ccBank), (m.volume, .ccVolume), (m.pan, .ccPan), (m.eperH, .ccEperH), (m.eperM, .ccEperM),
   (m.eperL, .ccEperL), (m.eshape, .ccEshape), (m.dcReset, .ccDcReset),
   (m.swenvBase, .ccSwenvCount), (m.swenvBase + 1, .ccSwenvTime0), (m.swenvBase + 2, .ccSwenvRatio0),
   (m.swenvBase + 3, .ccSwenvTime1), (m.swenvBase + 4, .ccSwenvRatio1),
   (m.swenvBase + 5, .ccSwenvTime2), (m.swenvBase + 6, .ccSwenvRatio2),
   (m.swenvBase + 7, .ccSwenvTime3), (m.swenvBase + 8, .ccSwenvRatio3),
   (m.swenvBase + 9, .ccSwenvTime4), (m.swenvBase + 10, .ccSwenvRatio4),
   (m.swenvBase + 11, .ccSwenvTime5), (m.swenvBase + 12, .ccSwenvRatio5)]

theorem CCMap.rows_numbers (m : CCMap) :
    m.rows.map Prod.fst = m.singles ++ List.range' m.swenvBase 13 := rfl

theorem CCMap.selects_iff (m : CCMap) (n : Nat) :
    m.selects n = true ↔ n ∈ m.rows.map Prod.fst := by
  rw [rows_numbers, List.mem_append, List.mem_range'_1]
  simp only [CCMap.selects, CCMap.inSwenv, Bool.or_eq_true, List.contains_iff_mem, Bool.and_eq_true,
    decide_eq_true_eq]
  exact or_congr_right (by omega)

theorem CCMap.rows_numbers_nodup {m : CCMap} (h : m.wellFormed = true) : (m.rows.map Prod.fst).Nodup := by
  obtain ⟨hnodup, hrange, -⟩ := m.wellFormed_iff.mp h
  rw [rows_numbers, List.nodup_append']
  refine ⟨hnodup, List.nodup_range', fun n hn hswenv => ?_⟩
  rw [List.mem_range'_1] at hswenv
  exact (hrange n hn).2 (by omega)

theorem CCMap.rows_numbers_le {m : CCMap} (h : m.wellFormed = true) {n : Nat}
    (hn : n ∈ m.rows.map Prod.fst) : n ≤ 127 := by
  obtain ⟨-, hrange, hend⟩ := m.wellFormed_iff.mp h
  rw [rows_numbers, List.mem_append, List.mem_range'_1] at hn
  rcases hn with hn | hn
  · exact (hrange n hn).1
  · omega

/-! ## Decoding a controller number is a look-up -/

/-- The look-up in the software-envelope range, by the offset j. -/
theorem decodeSwenv_offset {m : CCMap} {k : BitVec 7} {j : Nat} (hk : k.toNat = m.swenvBase + j) (c : Chan)
    (v : BitVec 7) :
    decodeSwenv m c k v = (m.rows[8 + j]?).elim (.ccOther c k v) (fun row => row.2 c v) := by
  unfold decodeSwenv
  rw [if_pos (by omega), show k.toNat - m.swenvBase = j by omega]
  match j with
  | 0 | 1 | 2 | 3 | 4 | 5 | 6 | 7 | 8 | 9 | 10 | 11 | 12 => rfl
  | n + 13 => rw [List.getElem?_eq_none (by simp only [CCMap.rows, List.length_cons, List.length_nil]; omega)]; rfl

theorem CCMap.rows_swenv_number {m : CCMap} {j : Nat} {row : Nat × (Chan → BitVec 7 → Instr)}
    (h : m.rows[8 + j]? = some row) : row.1 = m.swenvBase + j := by
  have hfst := congrArg (Option.map Prod.fst) h
  rw [← List.getElem?_map, rows_numbers, List.getElem?_append_right (Nat.le_add_right 8 j),
    show 8 + j - m.singles.length = j from Nat.add_sub_cancel_left 8 j] at hfst
  obtain ⟨hlt, hget⟩ := List.getElem?_eq_some_iff.mp hfst
  rw [← hget, List.getElem_range', Nat.one_mul]

theorem decodeSwenv_cases (m : CCMap) (c : Chan) (k v : BitVec 7) :
    (∃ f, (k.toNat, f) ∈ m.rows ∧ decodeSwenv m c k v = f c v) ∨
      (m.inSwenv k.toNat = false ∧ decodeSwenv m c k v = .ccOther c k v) := by
  by_cases hbase : m.swenvBase ≤ k.toNat
  · obtain ⟨j, hj⟩ := Nat.exists_eq_add_of_le hbase
    rw [decodeSwenv_offset hj]
    cases hrow : m.rows[8 + j]? with
    | some row =>
      have hnumber : k.toNat = row.1 := hj.trans (CCMap.rows_swenv_number hrow).symm
      exact .inl ⟨row.2, hnumber ▸ List.mem_of_getElem? hrow, rfl⟩
    | none =>
      have hlen : 21 ≤ 8 + j := List.getElem?_eq_none_iff.mp hrow
      exact .inr ⟨by simp only [CCMap.inSwenv, Bool.and_eq_false_iff, decide_eq_false_iff_not]; omega, rfl⟩
  · exact .inr ⟨by simp [CCMap.inSwenv, hbase], by simp [decodeSwenv, hbase]⟩

/-- Everything `decodeController` can do: the function of a row with that number, or CC_OTHER. -/
theorem decodeController_cases (m : CCMap) (c : Chan) (k v : BitVec 7) :
    (∃ f, (k.toNat, f) ∈ m.rows ∧ decodeController m c k v = f c v) ∨
      (m.selects k.toNat = false ∧ decodeController m c k v = .ccOther c k v) := by
  unfold decodeController
  split_ifs with hbank hpan hvolume heperH heperM heperL heshape hdcReset
  · exact .inl ⟨_, hbank ▸ List.mem_of_getElem? (i := 0) rfl, rfl⟩
  · exact .inl ⟨_, hpan ▸ List.mem_of_getElem? (i := 2) rfl, rfl⟩
  · exact .inl ⟨_, hvolume ▸ List.mem_of_getElem? (i := 1) rfl, rfl⟩
  · exact .inl ⟨_, heperH ▸ List.mem_of_getElem? (i := 3) rfl, rfl⟩
  · exact .inl ⟨_, heperM ▸ List.mem_of_getElem? (i := 4) rfl, rfl⟩
  · exact .inl ⟨_, heperL ▸ List.mem_of_getElem? (i := 5) rfl, rfl⟩
  · exact .inl ⟨_, heshape ▸ List.mem_of_getElem? (i := 6) rfl, rfl⟩
  · exact .inl ⟨_, hdcReset ▸ List.mem_of_getElem? (i := 7) rfl, rfl⟩
  · refine (decodeSwenv_cases m c k v).imp_right fun ⟨hswenv, hother⟩ => ⟨?_, hother⟩
    simp [CCMap.selects, CCMap.singles, *]

/-- A number of a row selects the row's function, because no two rows share a number (R7). -/
theorem decodeController_row {m : CCMap} (hwf : m.wellFormed = true) {k : BitVec 7}
    {f : Chan → BitVec 7 → Instr} (i : Nat) (hrow : m.rows[i]? = some (k.toNat, f)) (c : Chan) (v : BitVec 7) :
    decodeController m c k v = f c v := by
  have hmem := List.mem_of_getElem? hrow
  rcases decodeController_cases m c k v with ⟨g, hg, heq⟩ | ⟨hother, -⟩
  · have hsame := List.inj_on_of_nodup_map (CCMap.rows_numbers_nodup hwf) hg hmem rfl
    rw [heq, (Prod.mk.inj hsame).2]
  · have hselects := (m.selects_iff k.toNat).mpr (List.mem_map_of_mem (f := Prod.fst) hmem)
    rw [hselects] at hother
    cases hother

theorem decodeController_other {m : CCMap} {k : BitVec 7} (h : m.selects k.toNat = false) (c : Chan)
    (v : BitVec 7) : decodeController m c k v = .ccOther c k v := by
  rcases decodeController_cases m c k v with ⟨f, hf, -⟩ | ⟨-, hother⟩
  · have hselects := (m.selects_iff k.toNat).mpr (List.mem_map_of_mem (f := Prod.fst) hf)
    rw [hselects] at h
    cases h
  · exact hother

theorem CCMap.rows_time (m : CCMap) (p : PtIdx) :
    m.rows[9 + 2 * p.num]? = some (m.swenvBase + 1 + 2 * p.num, swenvTime p) := by
  cases p <;> rfl

theorem CCMap.rows_ratio (m : CCMap) (p : PtIdx) :
    m.rows[10 + 2 * p.num]? = some (m.swenvBase + 2 + 2 * p.num, swenvRatio p) := by
  cases p <;> rfl

/-- Settles O5: each clause names a row of the table, and the last one a number outside it. -/
theorem controllerNumbersSelectFunctions : Obligations.ControllerNumbersSelectFunctions := by
  unfold Obligations.ControllerNumbersSelectFunctions
  intro m c k v hwf
  have hselect : ∀ {n : Nat} {f : Chan → BitVec 7 → Instr} (i : Nat), m.rows[i]? = some (n, f) →
      k.toNat = n → decodeController m c k v = f c v := fun i hrow hk =>
    decodeController_row hwf i (hk ▸ hrow) c v
  refine ⟨hselect 0 rfl, hselect 2 rfl, hselect 1 rfl, hselect 3 rfl, hselect 4 rfl, hselect 5 rfl,
    hselect 6 rfl, hselect 7 rfl, hselect 8 rfl, fun p => hselect _ (m.rows_time p),
    fun p => hselect _ (m.rows_ratio p), fun hsingle hrange s => ?_⟩
  have hnone : m.selects k.toNat = false := by
    rw [← Bool.not_eq_true, CCMap.selects_iff, CCMap.rows_numbers, List.mem_append, List.mem_range'_1]
    exact not_or_intro hsingle (by omega)
  rw [decodeController_other hnone]
  rfl

/-! ## Encoding a row -/

/-- The function of a row is encoded as a ControlChange of the row's number, and is well formed. -/
theorem encode_row {m : CCMap} {n : Nat} {f : Chan → BitVec 7 → Instr} (h : (n, f) ∈ m.rows) (c : Chan)
    (v : BitVec 7) : encode m (f c v) = .event (ccWord c n v) ∧ (f c v).wf m = true := by
  have hall : ∀ row ∈ m.rows, encode m (row.2 c v) = .event (ccWord c row.1 v) ∧
      (row.2 c v).wf m = true := by
    simp only [CCMap.rows, List.forall_mem_cons, List.not_mem_nil, false_implies, implies_true, and_true]
    and_intros <;> rfl
  exact hall _ h

theorem encode_decodeController (m : CCMap) (c : Chan) (k v : BitVec 7) :
    encode m (decodeController m c k v) = .event (ccWord c k.toNat v) := by
  rcases decodeController_cases m c k v with ⟨f, hrow, heq⟩ | ⟨-, heq⟩
  · rw [heq, (encode_row hrow c v).1]
  · rw [heq]
    rfl

theorem decodeController_wf (m : CCMap) (c : Chan) (k v : BitVec 7) :
    (decodeController m c k v).wf m = true := by
  rcases decodeController_cases m c k v with ⟨f, hrow, heq⟩ | ⟨hother, heq⟩
  · rw [heq, (encode_row hrow c v).2]
  · rw [heq, Instr.wf, hother]
    rfl

end Sys2Proof
end

section
/-! SUPPORT. The decoder of event words, test by test (spec/30_encoding.md R102 to R104), and that it is the
inverse of the encoder (R100 to R106, R110, R113). -/

namespace Sys2Proof

open Sys2Proof.Machine

/-! ## The tests of R104, in order -/

theorem decodeEvent_of_unknownType {w : EventWord} (ht : EventType.ofCode w.type = none) (m : CCMap) :
    decodeEvent m w = decodeUnknownType w := by
  simp only [decodeEvent, ht]

theorem decodeEvent_of_ignoredChannel {w : EventWord} {t : EventType} (ht : w.type = t.code)
    (hc : Chan.ofCode w.chan = none) (m : CCMap) : decodeEvent m w = decodeIgnoredChannel t w := by
  simp only [decodeEvent, ht, EventType.ofCode_code, hc]

theorem decodeEvent_of_channel {w : EventWord} {t : EventType} {c : Chan} (ht : w.type = t.code)
    (hc : w.chan = c.code) (m : CCMap) : decodeEvent m w = decodeData m t c w := by
  simp only [decodeEvent, ht, EventType.ofCode_code, hc, Chan.ofCode_code]

/-- Every word stops at the first test of R104, stops at the second, or carries data. -/
theorem eventWord_cases (w : EventWord) : EventType.ofCode w.type = none ∨
    ∃ t : EventType, w.type = t.code ∧ (Chan.ofCode w.chan = none ∨ ∃ c : Chan, w.chan = c.code) := by
  cases ht : EventType.ofCode w.type with
  | none => exact .inl rfl
  | some t =>
    refine .inr ⟨t, EventType.ofCode_eq_some_iff.mp ht, ?_⟩
    cases hc : Chan.ofCode w.chan with
    | none => exact .inl rfl
    | some c => exact .inr ⟨c, Chan.ofCode_eq_some_iff.mp hc⟩

/-! ## Test 1: a type outside the set (R111) -/

theorem decodeUnknownType_ignored (w : EventWord) (s : State) : exec (decodeUnknownType w) s = .next s := by
  unfold decodeUnknownType
  split_ifs <;> rfl

theorem decodeUnknownType_wf (m : CCMap) (w : EventWord) : (decodeUnknownType w).wf m = true := by
  unfold decodeUnknownType
  split_ifs <;> rfl

/-- Bit 23 is the high bit of the type. -/
theorem EventWord.bit23 (w : EventWord) : w.getLsbD 23 = w.type.getLsbD 3 := by
  simp [EventWord.type]

/-- A word is its type and the 20 bits below. -/
theorem type_append_low (w : EventWord) : w.type ++ w.extractLsb' 0 20 = w := by
  apply BitVec.eq_of_toNat_eq
  simp only [EventWord.type, toNat_append_eq_add, toNat_extractLsb'_eq_mod]
  omega

@[simp] theorem append_type (t : BitVec 4) (low : BitVec 20) : EventWord.type (t ++ low) = t :=
  BitVec.extractLsb'_append_eq_left

theorem zero_append_low {w : EventWord} (h : w.getLsbD 23 = false) :
    (0 : BitVec 1) ++ w.extractLsb' 0 23 = w := by
  apply BitVec.eq_of_toNat_eq
  simp only [getLsbD_eq_decide_mod, decide_eq_false_iff_not] at h
  simp only [toNat_append_eq_add, toNat_extractLsb'_eq_mod, BitVec.ofNat_eq_ofNat,
    BitVec.toNat_ofNat]
  omega

/-- The types outside the set from 8 on are 0xA, 0xD and 0xF. -/
theorem EventType.unknown_high {n : BitVec 4} (hn : EventType.ofCode n = none) (hhigh : n.getLsbD 3 = true)
    (hA : n ≠ 0xA) (hD : n ≠ 0xD) : n = 0xF := by
  revert n; decide

theorem encode_decodeUnknownType {w : EventWord} (ht : EventType.ofCode w.type = none) (m : CCMap) :
    encode m (decodeUnknownType w) = .event w := by
  unfold decodeUnknownType
  split_ifs with hlow hA hD
  · exact congrArg Encoded.event (zero_append_low hlow)
  · exact congrArg Encoded.event (hA ▸ type_append_low w)
  · exact congrArg Encoded.event (hD ▸ type_append_low w)
  · rw [Bool.not_eq_false, EventWord.bit23] at hlow
    exact congrArg Encoded.event (EventType.unknown_high ht hlow hA hD ▸ type_append_low w)

/-- A type below 8 leaves the other 23 bits free. -/
theorem decodeEvent_type07 (m : CCMap) (body : BitVec 23) :
    decodeEvent m ((0 : BitVec 1) ++ body) = .ignoredType07 body := by
  have hbit : BitVec.getLsbD ((0 : BitVec 1) ++ body : EventWord) 23 = false := by
    simp only [getLsbD_eq_decide_mod, toNat_append_eq_add, BitVec.ofNat_eq_ofNat,
    BitVec.toNat_ofNat, decide_eq_false_iff_not]
    omega
  have hlow : ∀ n : BitVec 4, n.getLsbD 3 = false → EventType.ofCode n = none := by decide
  rw [decodeEvent_of_unknownType (hlow _ (EventWord.bit23 _ ▸ hbit)), decodeUnknownType, if_pos hbit]
  exact congrArg Instr.ignoredType07 BitVec.extractLsb'_append_eq_right

/-- The words of 0xA, 0xD and 0xF are told apart by the type. -/
theorem decodeEvent_unknownHigh (m : CCMap) {t : BitVec 4} (ht : EventType.ofCode t = none)
    (hhigh : t.getLsbD 3 = true) (low : BitVec 20) : decodeEvent m (t ++ low) =
      if t = 0xA then .ignoredTypeA low else if t = 0xD then .ignoredTypeD low else .ignoredTypeF low := by
  have hlow : BitVec.extractLsb' 0 20 (t ++ low) = low := BitVec.extractLsb'_append_eq_right
  rw [decodeEvent_of_unknownType (by rw [append_type]; exact ht), decodeUnknownType, EventWord.bit23,
    append_type, hhigh, if_neg Bool.noConfusion, hlow]

/-! ## Test 2: a channel field of 3 or more (R102) -/

theorem decodeIgnoredChannel_ignored (t : EventType) (w : EventWord) (s : State) :
    exec (decodeIgnoredChannel t w) s = .next s := by
  unfold decodeIgnoredChannel
  split_ifs <;> rfl

theorem decodeIgnoredChannel_wf (m : CCMap) (t : EventType) (w : EventWord) :
    (decodeIgnoredChannel t w).wf m = true := by
  unfold decodeIgnoredChannel
  split_ifs <;> rfl

/-- The test reads the channel field and keeps the body. -/
theorem decodeIgnoredChannel_eq (t : EventType) (w : EventWord) : decodeIgnoredChannel t w =
    if w.chan.getLsbD 3 then .ignoredCh815 t (w.chan.extractLsb' 0 3) (w.extractLsb' 0 16)
    else if w.chan.getLsbD 2 then .ignoredCh47 t (w.chan.extractLsb' 0 2) (w.extractLsb' 0 16)
    else .ignoredCh3 t (w.extractLsb' 0 16) := by
  have h3 : w.extractLsb' 16 3 = w.chan.extractLsb' 0 3 := by
    apply BitVec.eq_of_toNat_eq
    simp only [EventWord.chan, toNat_extractLsb'_eq_mod]
    omega
  have h2 : w.extractLsb' 16 2 = w.chan.extractLsb' 0 2 := by
    apply BitVec.eq_of_toNat_eq
    simp only [EventWord.chan, toNat_extractLsb'_eq_mod]
    omega
  simp [decodeIgnoredChannel, h3, h2, EventWord.chan]

theorem statusWord_ch47 (t : BitVec 4) (low : BitVec 2) (body : BitVec 16) :
    t ++ (1 : BitVec 2) ++ low ++ body = statusWord t ((1 : BitVec 2) ++ low) body := by
  apply BitVec.eq_of_toNat_eq
  simp only [statusWord_toNat, toNat_append_eq_add]
  omega

theorem statusWord_ch815 (t : BitVec 4) (low : BitVec 3) (body : BitVec 16) :
    t ++ (1 : BitVec 1) ++ low ++ body = statusWord t ((1 : BitVec 1) ++ low) body := by
  apply BitVec.eq_of_toNat_eq
  simp only [statusWord_toNat, toNat_append_eq_add]
  omega

/-- The fixed bits of the three rows of R102 are the high bits of the channel field. -/
theorem chan_of_815 {n : BitVec 4} (h3 : n.getLsbD 3 = true) : (1 : BitVec 1) ++ n.extractLsb' 0 3 = n := by
  revert n; decide

theorem chan_of_47 {n : BitVec 4} (h3 : n.getLsbD 3 = false) (h2 : n.getLsbD 2 = true) :
    (1 : BitVec 2) ++ n.extractLsb' 0 2 = n := by
  revert n; decide

theorem chan_of_3 {n : BitVec 4} (hn : Chan.ofCode n = none) (h3 : n.getLsbD 3 = false)
    (h2 : n.getLsbD 2 = false) : 3 = n := by
  revert n; decide

theorem encode_decodeIgnoredChannel {w : EventWord} {t : EventType} (ht : w.type = t.code)
    (hc : Chan.ofCode w.chan = none) (m : CCMap) : encode m (decodeIgnoredChannel t w) = .event w := by
  have hw : statusWord t.code w.chan (w.extractLsb' 0 16) = w := by rw [← ht, statusWord_fields]
  rw [decodeIgnoredChannel_eq]
  split_ifs with h3 h2
  · exact congrArg Encoded.event ((statusWord_ch815 ..).trans (by rw [chan_of_815 h3, hw]))
  · rw [Bool.not_eq_true] at h3
    exact congrArg Encoded.event ((statusWord_ch47 ..).trans (by rw [chan_of_47 h3 h2, hw]))
  · rw [Bool.not_eq_true] at h3 h2
    refine congrArg Encoded.event (Eq.trans ?_ hw)
    rw [← chan_of_3 hc h3 h2]
    rfl

theorem decodeEvent_statusWord_ignored (m : CCMap) (t : EventType) {ch : BitVec 4}
    (hc : Chan.ofCode ch = none) (body : BitVec 16) : decodeEvent m (statusWord t.code ch body) =
      if ch.getLsbD 3 then .ignoredCh815 t (ch.extractLsb' 0 3) body
      else if ch.getLsbD 2 then .ignoredCh47 t (ch.extractLsb' 0 2) body
      else .ignoredCh3 t body := by
  rw [decodeEvent_of_ignoredChannel (statusWord_type ..) (by rw [statusWord_chan, hc]),
    decodeIgnoredChannel_eq, statusWord_chan, statusWord_body]

theorem decodeEvent_ch3 (m : CCMap) (t : EventType) (body : BitVec 16) :
    decodeEvent m (t.code ++ (3 : BitVec 4) ++ body) = .ignoredCh3 t body :=
  decodeEvent_statusWord_ignored m t (by decide) body

theorem decodeEvent_ch47 (m : CCMap) (t : EventType) (low : BitVec 2) (body : BitVec 16) :
    decodeEvent m (t.code ++ (1 : BitVec 2) ++ low ++ body) = .ignoredCh47 t low body := by
  have hbits : ∀ low : BitVec 2, Chan.ofCode ((1 : BitVec 2) ++ low) = none ∧
      BitVec.getLsbD ((1 : BitVec 2) ++ low) 3 = false ∧ BitVec.getLsbD ((1 : BitVec 2) ++ low) 2 = true ∧
      BitVec.extractLsb' 0 2 ((1 : BitVec 2) ++ low) = low := by decide
  obtain ⟨hc, h3, h2, hlow⟩ := hbits low
  refine (congrArg (decodeEvent m) (statusWord_ch47 ..)).trans ?_
  rw [decodeEvent_statusWord_ignored m t hc, h3, h2, hlow]
  rfl

theorem decodeEvent_ch815 (m : CCMap) (t : EventType) (low : BitVec 3) (body : BitVec 16) :
    decodeEvent m (t.code ++ (1 : BitVec 1) ++ low ++ body) = .ignoredCh815 t low body := by
  have hbits : ∀ low : BitVec 3, Chan.ofCode ((1 : BitVec 1) ++ low) = none ∧
      BitVec.getLsbD ((1 : BitVec 1) ++ low) 3 = true ∧
      BitVec.extractLsb' 0 3 ((1 : BitVec 1) ++ low) = low := by decide
  obtain ⟨hc, h3, hlow⟩ := hbits low
  refine (congrArg (decodeEvent m) (statusWord_ch815 ..)).trans ?_
  rw [decodeEvent_statusWord_ignored m t hc, h3, hlow]
  rfl

/-! ## Tests 3 to 5: a data word on a channel (R103, R104) -/

/-- The event of type t with good data bytes (R104 steps 4 and 5); low is w[7:0], kept by a ProgramChange. -/
def goodEvent (m : CCMap) (t : EventType) (c : Chan) (d1 d2 : BitVec 7) (low : Byte) : Instr :=
  match t with
  | .noteOff => .noteOff c d1 d2
  | .noteOn => if d2 = 0 then .noteOnV0 c d1 else .noteOn c d1 d2
  | .controlChange => decodeController m c d1 d2
  | .programChange => .programChange c d1 low
  | .pitchBend => .pitchBend c d1 d2

/-- The outcome of type t with a good first and a malformed second data byte (R103): refused, but for a
ProgramChange, which does not use the second. -/
def malformedSecond (t : EventType) (c : Chan) (d1 d2 : BitVec 7) (low : Byte) : Instr :=
  match t with
  | .noteOff => .refusedBit7D2T8 c d1 d2
  | .noteOn => .refusedBit7D2T9 c d1 d2
  | .controlChange => .refusedBit7D2TB c d1 d2
  | .programChange => .programChange c d1 low
  | .pitchBend => .refusedBit7D2TE c d1 d2

theorem decodeData_of_malformedFirst {w : EventWord} (h1 : w.d1h = true) (m : CCMap) (t : EventType)
    (c : Chan) : decodeData m t c w = .refusedBit7D1 t c w.d1 (w.extractLsb' 0 8) := by
  unfold decodeData
  rw [if_pos h1]

theorem decodeData_of_malformedSecond {w : EventWord} (h1 : w.d1h = false) (h2 : w.d2h = true) (m : CCMap)
    (t : EventType) (c : Chan) :
    decodeData m t c w = malformedSecond t c w.d1 w.d2 (w.extractLsb' 0 8) := by
  cases t <;> simp only [decodeData, h1, h2, malformedSecond] <;> rfl

theorem decodeData_of_good {w : EventWord} {t : EventType} (h1 : w.d1h = false)
    (h2 : t = .programChange ∨ w.d2h = false) (m : CCMap) (c : Chan) :
    decodeData m t c w = goodEvent m t c w.d1 w.d2 (w.extractLsb' 0 8) := by
  rcases h2 with rfl | h2
  · unfold decodeData
    rw [h1]
    rfl
  · cases t <;> simp only [decodeData, h1, h2, goodEvent] <;> rfl

theorem goodEvent_noteOn (m : CCMap) (c : Chan) (d1 d2 : BitVec 7) (low : Byte) :
    goodEvent m .noteOn c d1 d2 low = if d2 = 0 then .noteOnV0 c d1 else .noteOn c d1 d2 := rfl

theorem malformedSecond_isDataBit7 {t : EventType} (ht : t ≠ .programChange) (c : Chan) (d1 d2 : BitVec 7)
    (low : Byte) : (malformedSecond t c d1 d2 low).isDataBit7 = true := by
  cases t with
  | programChange => exact absurd rfl ht
  | _ => rfl

theorem goodEvent_wf (m : CCMap) (t : EventType) (c : Chan) (d1 d2 : BitVec 7) (low : Byte) :
    (goodEvent m t c d1 d2 low).wf m = true := by
  cases t with
  | noteOff | programChange | pitchBend => rfl
  | controlChange => exact decodeController_wf ..
  | noteOn =>
    rw [goodEvent_noteOn]
    split_ifs with hzero
    · rfl
    · exact decide_eq_true hzero

theorem decodeData_wf (m : CCMap) (t : EventType) (c : Chan) (w : EventWord) :
    (decodeData m t c w).wf m = true := by
  cases h1 : w.d1h with
  | true => rw [decodeData_of_malformedFirst h1]; rfl
  | false =>
    cases h2 : w.d2h with
    | true => rw [decodeData_of_malformedSecond h1 h2]; cases t <;> rfl
    | false => rw [decodeData_of_good h1 (.inr h2), goodEvent_wf]

/-! ## Words of a type of the set on a channel -/

theorem decodeEvent_packWord (m : CCMap) (t : EventType) (c : Chan) (b1 b2 : Byte) :
    decodeEvent m (packWord t.code c.code b1 b2) = decodeData m t c (packWord t.code c.code b1 b2) := by
  rw [packWord_eq_statusWord]
  exact decodeEvent_of_channel (statusWord_type ..) (statusWord_chan ..) m

theorem decodeEvent_malformedFirst (m : CCMap) (t : EventType) (c : Chan) (d1 : BitVec 7) (low : Byte) :
    decodeEvent m (packWord t.code c.code (badByte d1) low) = .refusedBit7D1 t c d1 low := by
  rw [decodeEvent_packWord, decodeData_of_malformedFirst (by rw [packWord_d1h, badByte_bit7]), packWord_d1,
    badByte_bits, packWord_low]

theorem decodeEvent_malformedSecond (m : CCMap) (t : EventType) (c : Chan) (d1 d2 : BitVec 7) :
    decodeEvent m (packWord t.code c.code (dataByte d1) (badByte d2)) =
      malformedSecond t c d1 d2 (badByte d2) := by
  rw [decodeEvent_packWord, decodeData_of_malformedSecond (by rw [packWord_d1h, dataByte_bit7])
    (by rw [packWord_d2h, badByte_bit7]), packWord_d1, dataByte_bits, packWord_d2, badByte_bits, packWord_low]

theorem decodeEvent_good (m : CCMap) (t : EventType) (c : Chan) (d1 d2 : BitVec 7) :
    decodeEvent m (packWord t.code c.code (dataByte d1) (dataByte d2)) =
      goodEvent m t c d1 d2 (dataByte d2) := by
  rw [decodeEvent_packWord, decodeData_of_good (by rw [packWord_d1h, dataByte_bit7])
    (.inr (by rw [packWord_d2h, dataByte_bit7])), packWord_d1, dataByte_bits, packWord_d2,
    dataByte_bits, packWord_low]

theorem decodeEvent_programChange (m : CCMap) (c : Chan) (pv : BitVec 7) (low : Byte) :
    decodeEvent m (packWord EventType.programChange.code c.code (dataByte pv) low) =
      .programChange c pv low := by
  obtain ⟨d2, rfl⟩ | ⟨d2, rfl⟩ := byte_cases low
  · rw [decodeEvent_good]; rfl
  · rw [decodeEvent_malformedSecond]; rfl

theorem encode_goodEvent (m : CCMap) (t : EventType) (c : Chan) (d1 d2 : BitVec 7) :
    encode m (goodEvent m t c d1 d2 (dataByte d2)) =
      .event (packWord t.code c.code (dataByte d1) (dataByte d2)) := by
  cases t with
  | noteOff | programChange | pitchBend => rfl
  | controlChange =>
    refine (encode_decodeController m c d1 d2).trans ?_
    rw [ccWord, BitVec.ofNat_toNat, BitVec.setWidth_eq]
  | noteOn =>
    rw [goodEvent_noteOn]
    split_ifs with hzero
    · rw [hzero, dataByte_zero]; rfl
    · rfl

/-- Decoding a packed word keeps every bit: the seven bits of a data byte or of a malformed one are an operand. -/
theorem encode_decodeEvent_packWord (m : CCMap) (t : EventType) (c : Chan) (b1 b2 : Byte) :
    encode m (decodeEvent m (packWord t.code c.code b1 b2)) = .event (packWord t.code c.code b1 b2) := by
  obtain ⟨d1, rfl⟩ | ⟨d1, rfl⟩ := byte_cases b1
  · obtain ⟨d2, rfl⟩ | ⟨d2, rfl⟩ := byte_cases b2
    · rw [decodeEvent_good, encode_goodEvent]
    · rw [decodeEvent_malformedSecond]
      cases t <;> rfl
  · rw [decodeEvent_malformedFirst]
    rfl

theorem decodeEvent_ccWord (m : CCMap) (c : Chan) (n : Nat) (v : BitVec 7) :
    decodeEvent m (ccWord c n v) = decodeController m c (BitVec.ofNat 7 n) v :=
  decodeEvent_good m .controlChange c _ v

/-- A row of the CCMAP is decoded from the word of its number. -/
theorem decodeEvent_row {m : CCMap} (hwf : m.wellFormed = true) {n : Nat}
    {f : Chan → BitVec 7 → Instr} (i : Nat) (hrow : m.rows[i]? = some (n, f)) (c : Chan) (v : BitVec 7) :
    decodeEvent m (ccWord c n v) = f c v := by
  have hn : n ≤ 127 := CCMap.rows_numbers_le hwf
    (List.mem_map_of_mem (f := Prod.fst) (List.mem_of_getElem? hrow))
  have hk : (BitVec.ofNat 7 n).toNat = n := by
    rw [BitVec.toNat_ofNat, Nat.mod_eq_of_lt (by omega)]
  rw [decodeEvent_ccWord, decodeController_row hwf i (hk.symm ▸ hrow)]

/-! ## The event words -/

/-- Settles O2: the fields that each test of R104 leaves over are the operands. -/
theorem encodeOfDecodedEvent : Obligations.EncodeOfDecodedEvent := by
  unfold Obligations.EncodeOfDecodedEvent
  intro m w
  rcases eventWord_cases w with ht | ⟨t, ht, hc | ⟨c, hc⟩⟩
  · rw [decodeEvent_of_unknownType ht, encode_decodeUnknownType ht]
  · rw [decodeEvent_of_ignoredChannel ht hc, encode_decodeIgnoredChannel ht hc]
  · obtain ⟨b1, b2, hw⟩ := statusWord_eq_packWord t.code c.code (w.extractLsb' 0 16)
    rw [← ht, ← hc, statusWord_fields, ht, hc] at hw
    rw [hw, encode_decodeEvent_packWord]

/-- Settles O3, test by test. -/
theorem decodedEventsAreWellFormed : Obligations.DecodedEventsAreWellFormed := by
  unfold Obligations.DecodedEventsAreWellFormed
  intro m w
  refine ⟨decodeEvent_isEvent m w, ?_⟩
  rcases eventWord_cases w with ht | ⟨t, ht, hc | ⟨c, hc⟩⟩
  · rw [decodeEvent_of_unknownType ht, decodeUnknownType_wf]
  · rw [decodeEvent_of_ignoredChannel ht hc, decodeIgnoredChannel_wf]
  · rw [decodeEvent_of_channel ht hc, decodeData_wf]

/-- A type number of the set is the code of its type. -/
theorem EventType.exists_code {n : BitVec 4} (h : n.toNat ∈ [0x8, 0x9, 0xB, 0xC, 0xE]) :
    ∃ t : EventType, n = t.code := by
  cases ht : EventType.ofCode n with
  | none => exact absurd h (EventType.ofCode_eq_none_iff.mp ht)
  | some t => exact ⟨t, EventType.ofCode_eq_some_iff.mp ht⟩

theorem EventType.eq_of_code_toNat {n : BitVec 4} {t u : EventType} (ht : n = t.code)
    (hu : n.toNat = u.code.toNat) : t = u :=
  Option.some.inj ((EventType.ofCode_eq_some_iff.mpr ht).symm.trans
    (EventType.ofCode_eq_some_iff.mpr (BitVec.eq_of_toNat_eq hu)))

/-- Settles O4: one clause for each test of R104. -/
theorem eventWordDecodeOrder : Obligations.EventWordDecodeOrder := by
  unfold Obligations.EventWordDecodeOrder
  intro m w s type chan d1 d2 bad
  refine ⟨fun htype => ?_, fun htype hchan => ?_, fun c htype hchan => ?_⟩
  · rw [decodeEvent_of_unknownType (EventType.ofCode_eq_none_iff.mpr htype)]
    exact decodeUnknownType_ignored w s
  · obtain ⟨t, ht⟩ := EventType.exists_code htype
    rw [decodeEvent_of_ignoredChannel ht (Chan.ofCode_eq_none_iff.mpr hchan)]
    exact decodeIgnoredChannel_ignored t w s
  · obtain ⟨t, ht⟩ := EventType.exists_code htype
    have hc : w.chan = c.code := BitVec.eq_of_toNat_eq (hchan.trans c.code_toNat.symm)
    have hcode : ∀ u : EventType, type = u.code.toNat → t = u := fun u => EventType.eq_of_code_toNat ht
    rw [decodeEvent_of_channel ht hc]
    refine ⟨fun hbad => ?_, fun hgood => ?_⟩
    · cases h1 : w.d1h with
      | true => rw [decodeData_of_malformedFirst h1]; rfl
      | false =>
        obtain ⟨hused, h2⟩ := hbad.resolve_left (Bool.eq_false_iff.mp h1)
        rw [decodeData_of_malformedSecond h1 h2]
        refine malformedSecond_isDataBit7 (fun hprogram => hused ?_) c w.d1 w.d2 _
        rw [show type = t.code.toNat from congrArg BitVec.toNat ht, hprogram]
        rfl
    · obtain ⟨h1, h2⟩ := not_or.mp hgood
      rw [decodeData_of_good (Bool.eq_false_iff.mpr h1) ((not_and_or.mp h2).imp
        (fun hprogram => hcode .programChange (not_not.mp hprogram)) Bool.eq_false_iff.mpr)]
      refine ⟨fun h hzero => ?_, fun h hzero => ?_, fun h => ?_, fun h => ?_, fun h => ?_, fun h => ?_⟩
      · obtain rfl := hcode .noteOn h
        exact if_pos hzero
      · obtain rfl := hcode .noteOn h
        exact if_neg hzero
      · obtain rfl := hcode .noteOff h
        rfl
      · obtain rfl := hcode .controlChange h
        rfl
      · obtain rfl := hcode .programChange h
        rfl
      · obtain rfl := hcode .pitchBend h
        rfl

/-! ## The encoder's inverse -/

/-- R110: every operation code outside 1..6 is BAD_OP. -/
theorem decodeRecord_badOp {r : HostRecord} (h : r.op.toNat = 0 ∨ 6 < r.op.toNat) :
    decodeRecord r = .ok (.badOp r.op) := by
  unfold decodeRecord
  split
  case h_7 => rfl
  all_goals omega

theorem validOp_eq_false_iff (op : BitVec 8) : validOp op = false ↔ op.toNat = 0 ∨ 6 < op.toNat := by
  simp only [validOp, Bool.and_eq_false_iff, decide_eq_false_iff_not]
  omega

/-- Settles O1: event words by the test of R104 that stops them, controllers by their row, and records by their
operation code. -/
theorem decodeOfEncode : Obligations.DecodeOfEncode := by
  unfold Obligations.DecodeOfEncode
  intro m i hm hi
  have hevent : ∀ {w : EventWord} {j : Instr}, decodeEvent m w = j → decode m (.event w) = .ok j :=
    congrArg Except.ok
  have hrow : ∀ {n : Nat} {f : Chan → BitVec 7 → Instr} (j : Nat), m.rows[j]? = some (n, f) → ∀ c v,
      decode m (.event (ccWord c n v)) = .ok (f c v) := fun j hj c v =>
    hevent (decodeEvent_row hm j hj c v)
  cases i with
  | ignoredType07 body => exact hevent (decodeEvent_type07 m body)
  | ignoredTypeA body => exact hevent (decodeEvent_unknownHigh m (t := 0xA) (by decide) (by decide) body)
  | ignoredTypeD body => exact hevent (decodeEvent_unknownHigh m (t := 0xD) (by decide) (by decide) body)
  | ignoredTypeF body => exact hevent (decodeEvent_unknownHigh m (t := 0xF) (by decide) (by decide) body)
  | ignoredCh3 t body => exact hevent (decodeEvent_ch3 m t body)
  | ignoredCh47 t low body => exact hevent (decodeEvent_ch47 m t low body)
  | ignoredCh815 t low body => exact hevent (decodeEvent_ch815 m t low body)
  | refusedBit7D1 t c d1 low => exact hevent (decodeEvent_malformedFirst m t c d1 low)
  | refusedBit7D2T8 c d1 d2 => exact hevent (decodeEvent_malformedSecond m .noteOff c d1 d2)
  | refusedBit7D2T9 c d1 d2 => exact hevent (decodeEvent_malformedSecond m .noteOn c d1 d2)
  | refusedBit7D2TB c d1 d2 => exact hevent (decodeEvent_malformedSecond m .controlChange c d1 d2)
  | refusedBit7D2TE c d1 d2 => exact hevent (decodeEvent_malformedSecond m .pitchBend c d1 d2)
  | noteOnV0 c key => exact hevent (decodeEvent_good m .noteOn c key 0)
  | noteOn c key velocity =>
    exact hevent ((decodeEvent_good ..).trans (if_neg (of_decide_eq_true hi)))
  | noteOff c key velocity => exact hevent (decodeEvent_good m .noteOff c key velocity)
  | pitchBend c lsb msb => exact hevent (decodeEvent_good m .pitchBend c lsb msb)
  | programChange c pv low => exact hevent (decodeEvent_programChange m c pv low)
  | ccBank c v => exact hrow 0 rfl c v
  | ccVolume c v => exact hrow 1 rfl c v
  | ccPan c v => exact hrow 2 rfl c v
  | ccEperH c v => exact hrow 3 rfl c v
  | ccEperM c v => exact hrow 4 rfl c v
  | ccEperL c v => exact hrow 5 rfl c v
  | ccEshape c v => exact hrow 6 rfl c v
  | ccDcReset c v => exact hrow 7 rfl c v
  | ccSwenvCount c v => exact hrow 8 rfl c v
  | ccSwenvTime0 c v => exact hrow 9 rfl c v
  | ccSwenvRatio0 c v => exact hrow 10 rfl c v
  | ccSwenvTime1 c v => exact hrow 11 rfl c v
  | ccSwenvRatio1 c v => exact hrow 12 rfl c v
  | ccSwenvTime2 c v => exact hrow 13 rfl c v
  | ccSwenvRatio2 c v => exact hrow 14 rfl c v
  | ccSwenvTime3 c v => exact hrow 15 rfl c v
  | ccSwenvRatio3 c v => exact hrow 16 rfl c v
  | ccSwenvTime4 c v => exact hrow 17 rfl c v
  | ccSwenvRatio4 c v => exact hrow 18 rfl c v
  | ccSwenvTime5 c v => exact hrow 19 rfl c v
  | ccSwenvRatio5 c v => exact hrow 20 rfl c v
  | ccOther c k v =>
    refine hevent ((decodeEvent_ccWord m c k.toNat v).trans ?_)
    rw [BitVec.ofNat_toNat, BitVec.setWidth_eq, decodeController_other (Bool.not_eq_true' _ |>.mp hi)]
  | configure | deconfigure | paramWrite | stateSave | stateLoad => rfl
  | render n numOut events prior => exact if_pos hi
  | badOp op => exact decodeRecord_badOp ((validOp_eq_false_iff op).mp (Bool.not_eq_true' _ |>.mp hi))

end Sys2Proof
end

section
/-! SUPPORT. The text lines of events (spec/30_encoding.md R114, R115): the sums that give their words are
encodings, and what EPERIOD does. -/

namespace Sys2Proof.Machine

open Sys2Proof

/-! ## The sums of the event lines (R114) -/

/-- A packed word on a channel is the sum of its fields at their places. -/
theorem packWord_eq_sum (t : BitVec 4) (c : Chan) (b1 b2 : Byte) : packWord t c.code b1 b2 =
    BitVec.ofNat 24 (t.toNat * 0x100000 + c.num * 0x10000 + b1.toNat * 0x100 + b2.toNat) := by
  rw [← BitVec.setWidth_eq (packWord t c.code b1 b2), ← BitVec.ofNat_toNat, packWord_toNat, c.code_toNat]
  rfl

/-- The word of a line with two data operands, each an operand of seven bits. -/
theorem packWord_data_eq_sum (t : BitVec 4) (c : Chan) (a b : BitVec 7) :
    packWord t c.code (dataByte a) (dataByte b) =
      BitVec.ofNat 24 (t.toNat * 0x100000 + c.num * 0x10000 + a.toNat * 0x100 + b.toNat) := by
  rw [packWord_eq_sum, dataByte_toNat, dataByte_toNat]

/-- Settles O7: each event is a packed word of two data bytes. -/
theorem eventLinesAreEncodings : Obligations.EventLinesAreEncodings := by
  unfold Obligations.EventLinesAreEncodings
  intro m c a b
  have hsum := fun t : EventType => packWord_data_eq_sum t.code c
  refine ⟨congrArg Encoded.event (hsum .noteOff a b), fun _ => congrArg Encoded.event (hsum .noteOn a b),
    congrArg Encoded.event (hsum .noteOn a 0), congrArg Encoded.event ?_, congrArg Encoded.event ?_,
    congrArg Encoded.event (hsum .pitchBend a b)⟩
  · rw [ccWord, BitVec.ofNat_toNat, BitVec.setWidth_eq]
    exact hsum .controlChange a b
  · exact hsum .programChange a 0

/-! ## EPERIOD (R115, R170) -/

/-- The line of a controller on a channel is the word of its number and value. -/
theorem EventLine.cc_word {k v : Nat} (hk : k ≤ 127) (hv : v < 128) (c : Chan) :
    (EventLine.cc c.num k v).word = ccWord c k (BitVec.ofNat 7 v) := by
  rw [ccWord, packWord_data_eq_sum, BitVec.toNat_ofNat, BitVec.toNat_ofNat,
    Nat.mod_eq_of_lt (show k < 2 ^ 7 by omega), Nat.mod_eq_of_lt hv]
  rfl

/-- A line of a row of the CCMAP applies the row's function, to the operand's low seven bits. -/
theorem applyWord_row {m : CCMap} (hwf : m.wellFormed = true) {s : State} (hs : s.cfg.ccmap = m) {k : Nat}
    {f : Chan → BitVec 7 → Instr} (i : Nat) (hrow : m.rows[i]? = some (k, f)) (c : Chan) (v : Nat) :
    applyWord (EventLine.cc c.num k (v % 128)).word s =
      stateAfter (applyEvent (f c (BitVec.ofNat 7 v)) s) s := by
  have hk : k ≤ 127 := CCMap.rows_numbers_le hwf
    (List.mem_map_of_mem (f := Prod.fst) (List.mem_of_getElem? hrow))
  have hv : BitVec.ofNat 7 (v % 128) = BitVec.ofNat 7 v :=
    BitVec.eq_of_toNat_eq (by rw [BitVec.toNat_ofNat, BitVec.toNat_ofNat, Nat.mod_mod])
  rw [applyWord, EventLine.cc_word hk (Nat.mod_lt v (by decide)), hs, hv, decodeEvent_row hwf i hrow]

theorem composePeriod_x (s : State) : (composePeriod s).x = s.x := emit_x _ _

theorem composePeriod_e (s : State) : (composePeriod s).e = s.e := emit_e _ _

theorem composePeriod_cfg (s : State) : (composePeriod s).cfg = s.cfg := emit_cfg _ _

theorem composePeriod_g (s : State) :
    (composePeriod s).g = { s.g with envPeriod := word32 (composedPeriod s.x) } := emit_g _ _

theorem composePeriod_trace {s : State} (h : s.e.active = true) :
    (composePeriod s).trace = s.trace ++ [.setEnvelope (composedPeriod s.x)] :=
  (emit_trace _ _).trans (if_pos h)

/-- The three words of EPERIOD p write the high, the middle and the low fragment of p. -/
theorem applyAll_eperiod {s : State} (hwf : s.cfg.ccmap.wellFormed = true) (c : Chan) (p : Nat) :
    applyAll ((Pseudo.expand s.cfg.ccmap (.eperiod c.num p)).map (fun l => (l.word, 0))) s =
      writeFragL (BitVec.ofNat 7 p)
        (writeFragM (BitVec.ofNat 7 (p / 2 ^ 7)) (writeFragH (BitVec.ofNat 7 (p / 2 ^ 14)) s)) := by
  set h : BitVec 7 := BitVec.ofNat 7 (p / 2 ^ 14)
  set m : BitVec 7 := BitVec.ofNat 7 (p / 2 ^ 7)
  have hfirst := applyWord_row hwf rfl 3 rfl c (p / 2 ^ 14)
  have hsecond := applyWord_row hwf (s := writeFragH h s) (congrArg Config.ccmap (composePeriod_cfg _)) 4 rfl c
    (p / 2 ^ 7)
  have hthird := applyWord_row hwf (s := writeFragM m (writeFragH h s))
    (congrArg Config.ccmap ((composePeriod_cfg _).trans (composePeriod_cfg _))) 5 rfl c p
  exact (congrArg (applyWord _) ((congrArg (applyWord _) hfirst).trans hsecond)).trans hthird

/-- The fragments of a number below 2^21 compose to it, saturated (R170). -/
theorem composedPeriod_fragments {p : Nat} (hp : p < 2 ^ 21) : composedPeriod
    { h := BitVec.ofNat 7 (p / 2 ^ 14), m := BitVec.ofNat 7 (p / 2 ^ 7), l := BitVec.ofNat 7 p } =
      min p 65535 := by
  rw [composedPeriod, periodRegister_eq]
  simp only [BitVec.toNat_ofNat, Config.periodMax]
  omega

/-- Settles O28: the last of the three words composes the period from all three fragments. -/
theorem eperiodSetsThePeriod : Obligations.EperiodSetsThePeriod := by
  unfold Obligations.EperiodSetsThePeriod
  rintro s c p _ hwf hp rfl
  rw [applyAll_eperiod hwf]
  simp only [writeFragH, writeFragM, writeFragL, composePeriod_x, composePeriod_g, State.setX_x, State.setX_g,
    composedPeriod_fragments hp]
  refine ⟨trivial, rfl, fun hactive => ?_⟩
  rw [composePeriod_trace (by simp only [State.setX_e, composePeriod_e, hactive]), List.getLast?_concat]
  simp only [State.setX_x, composedPeriod_fragments hp]

end Sys2Proof.Machine
end

section
/-! SUPPORT. Runs, and words that are no event (spec/30_encoding.md R102, R103, R109, R110, R181). -/

namespace Sys2Proof.Machine

open Sys2Proof

/-! ## The invariant along a run -/

/-- At its creation a block has emitted nothing and is inactive (R300). -/
theorem State.powerUp_inv (cfg : Config) : (State.powerUp cfg).Inv where
  traceInRange _ h := by cases h
  activeRate h := by cases h
  activeClock h := by cases h
  activeConfigured h := by cases h
  cacheLegal c _ h := by cases c <;> cases h
  startLegal c := by cases c <;> exact ⟨le_rfl, le_rfl⟩
  inactiveTime _ := rfl

/-- Every state of every run has the invariant. -/
theorem Reachable.inv {cfg : Config} {s : State} (h : Reachable cfg s) : s.Inv := by
  induction h with
  | created => exact State.powerUp_inv cfg
  | issued r _ ih => exact ih.of_watched rfl
  | stepped _ hstep ih => exact stepKeepsInvariant _ _ ih hstep

/-- Settles O15: the invariant speaks of the whole trace. -/
theorem everyEmittedCommandInRange : Obligations.EveryEmittedCommandInRange := by
  unfold Obligations.EveryEmittedCommandInRange
  exact fun _ _ h => h.inv.traceInRange

/-! ## Words and records that are no event or command -/

/-- Settles O6, by evaluating the decoder on the words. -/
theorem specWordsDecode : Obligations.SpecWordsDecode := by
  unfold Obligations.SpecWordsDecode
  decide

/-- Settles O18: each of these meanings ignores the word. -/
theorem ignoredWordsChangeNothing : Obligations.IgnoredWordsChangeNothing := by
  unfold Obligations.IgnoredWordsChangeNothing
  intros
  and_intros <;> rfl

/-- Settles O19: each meaning is a refusal and no more, and R110 has no other operation codes. -/
theorem refusedInputsSetTheMarkOnly : Obligations.RefusedInputsSetTheMarkOnly := by
  unfold Obligations.RefusedInputsSetTheMarkOnly
  intro s t c d1 d2 low op
  refine ⟨rfl, rfl, rfl, rfl, rfl, rfl, fun hop r hr => ?_⟩
  subst hr
  exact decodeRecord_badOp hop

end Sys2Proof.Machine
end

section
/-! SUPPORT. The envelope evaluator (spec/40_envelope.md R140 to R151): the breakpoints the scan passes over, the
segment or the held ratio it ends at, and the fields whose reading refuses it. -/

namespace Sys2Proof.Machine

open Sys2Proof

/-! ## One breakpoint of the scan (R142, R149) -/

/-- The scan reads the time of the breakpoint and goes on to the next one (R142). -/
def Point.Passed (e : Rat) (q : Point) : Prop := ∃ t, F32.val q.time = some t ∧ t ≤ e

section
variable {e t : Rat} {p : Point}

theorem scan_passed (htime : F32.val p.time = some t) (hle : t ≤ e) (prev : Option (Rat × Point))
    (rest : List Point) : scan e prev (p :: rest) = scan e (some (t, p)) rest := by
  simp [scan, htime, hle.not_gt]

theorem scan_selected (htime : F32.val p.time = some t) (hlt : e < t) (prev : Option (Rat × Point))
    (rest : List Point) : scan e prev (p :: rest) = segmentRatio e prev t p := by
  simp [scan, htime, hlt]

theorem scan_unreadable (htime : F32.val p.time = none) (e : Rat) (prev : Option (Rat × Point))
    (rest : List Point) : scan e prev (p :: rest) = .error .nonFinite := by
  simp [scan, htime]

end

/-! ## The breakpoints in front (R142) -/

/-- What the scan remembers of the breakpoints it has passed: the last one, and its time. -/
def lastPassed (pre : List Point) : Option (Rat × Point) :=
  pre.getLast?.map (fun q => (F32.finiteVal q.time, q))

theorem F32.finiteVal_of_val {x : F32} {q : Rat} (h : F32.val x = some q) : F32.finiteVal x = q := by
  unfold F32.val at h
  split at h
  · exact Option.some.inj h
  · cases h

theorem lastPassed_concat {q : Point} {t : Rat} (htime : F32.val q.time = some t) (pre : List Point) :
    lastPassed (pre ++ [q]) = some (t, q) := by
  simp [lastPassed, F32.finiteVal_of_val htime]

theorem ratio_append {e : Rat} {pre : List Point} (hpre : ∀ q ∈ pre, Point.Passed e q) (rest : List Point) :
    ratio e (pre ++ rest) = scan e (lastPassed pre) rest := by
  induction pre using List.reverseRecOn generalizing rest with
  | nil => rfl
  | append_singleton pre q ih =>
    obtain ⟨t, htime, hle⟩ := hpre q (by simp)
    have hfront : ∀ p ∈ pre, Point.Passed e p := fun p hp => hpre p (List.mem_append_left _ hp)
    rw [List.append_assoc, ih hfront, List.singleton_append, scan_passed htime hle, lastPassed_concat htime]

theorem ratio_selected {e t : Rat} {pre : List Point} {p : Point} (hpre : ∀ q ∈ pre, Point.Passed e q)
    (htime : F32.val p.time = some t) (hlt : e < t) (post : List Point) :
    ratio e (pre ++ p :: post) = segmentRatio e (lastPassed pre) t p := by
  rw [ratio_append hpre, scan_selected htime hlt]

theorem ratio_held {e : Rat} {pre : List Point} {p : Point} (hall : ∀ q ∈ pre ++ [p], Point.Passed e q) :
    ratio e (pre ++ [p]) = readRatio p := by
  obtain ⟨t, htime, -⟩ := hall p (by simp)
  rw [← List.append_nil (pre ++ [p]), ratio_append hall, lastPassed_concat htime, scan]

/-! ## The value of a segment (R144 to R146) -/

theorem readRatio_of_val {p : Point} {r : Rat} (h : F32.val p.ratio = some r) : readRatio p = .ok r := by
  rw [readRatio, h]

theorem segmentRatio_origin {p : Point} {ri : Rat} (hri : F32.val p.ratio = some ri) (e ti : Rat) :
    segmentRatio e none ti p = .ok (interpolate e 0 0 ti ri) := by
  rw [segmentRatio, readRatio_of_val hri]

theorem segmentRatio_between {p q : Point} {rs ri : Rat} (hrs : F32.val q.ratio = some rs)
    (hri : F32.val p.ratio = some ri) (e ts ti : Rat) :
    segmentRatio e (some (ts, q)) ti p = .ok (interpolate e ts rs ti ri) := by
  rw [segmentRatio, readRatio_of_val hrs, readRatio_of_val hri]

/-- A segment of positive length needs no guard (R145, R146). -/
theorem interpolate_of_lt {ts ti : Rat} (h : ts < ti) (e rs ri : Rat) :
    interpolate e ts rs ti ri = rs + (e - ts) / (ti - ts) * (ri - rs) := by
  simp [interpolate, (sub_pos.mpr h).ne']

/-- Inside a segment the progress lies in [0, 1], so the value lies between its two ratios (R150). -/
theorem interpolate_mem_unit {e ts ti rs ri : Rat} (hts : ts ≤ e) (hlt : e < ti)
    (hrs : rs ∈ Set.Icc (0 : Rat) 1) (hri : ri ∈ Set.Icc (0 : Rat) 1) :
    interpolate e ts rs ti ri ∈ Set.Icc (0 : Rat) 1 := by
  have hlength : 0 < ti - ts := sub_pos.mpr (hts.trans_lt hlt)
  have hprogress : (e - ts) / (ti - ts) ∈ Set.Icc (0 : Rat) 1 :=
    ⟨div_nonneg (sub_nonneg.mpr hts) hlength.le, (div_le_one hlength).mpr (sub_le_sub_right hlt.le ts)⟩
  rw [interpolate_of_lt (hts.trans_lt hlt)]
  exact (convex_Icc 0 1).add_smul_sub_mem hrs hri hprogress

/-- Settles O36: the scan passes the breakpoints in front, and a segment that starts at or before e and ends
above it has a positive length. -/
theorem envelopeInterpolates : Obligations.EnvelopeInterpolates := by
  unfold Obligations.EnvelopeInterpolates
  intro e ti ri pre post p he hpre htime hri hlt
  rw [ratio_selected hpre htime hlt]
  refine ⟨?_, ?_⟩
  · rintro rfl
    have horigin : interpolate e 0 0 ti ri = e / ti * ri := by
      simpa using interpolate_of_lt (he.trans_lt hlt) e 0 ri
    exact (segmentRatio_origin hri e ti).trans (congrArg Except.ok horigin)
  · rintro pre' q ts rs rfl hts hrs
    obtain ⟨t, ht, hle⟩ := hpre q (by simp)
    obtain rfl : t = ts := Option.some.inj (ht.symm.trans hts)
    have hlength : t < ti := hle.trans_lt hlt
    rw [lastPassed_concat ht, segmentRatio_between hrs hri, interpolate_of_lt hlength]
    exact ⟨hlength, rfl⟩

/-- Settles O37: past the last breakpoint its ratio is read, and at the origin the progress is 0. -/
theorem envelopeHoldsAndIsPinned : Obligations.EnvelopeHoldsAndIsPinned := by
  unfold Obligations.EnvelopeHoldsAndIsPinned
  refine ⟨fun e r pre p hall hr => (ratio_held hall).trans (readRatio_of_val hr), ?_⟩
  intro p post t r htime ht hr
  obtain ⟨horigin, -⟩ := envelopeInterpolates 0 t r [] post p le_rfl nofun htime hr ht
  simpa using horigin rfl

/-! ## Finite forms (R150) -/

/-- A form whose fields are finite has a first breakpoint above e, or all of them are passed (R142, R143). -/
theorem selected_or_passed (e : Rat) {pts : List Point} (hfinite : ∀ p ∈ pts, Point.Finite p) :
    (∃ pre p post, pts = pre ++ p :: post ∧ (∀ q ∈ pre, Point.Passed e q) ∧ e < F32.finiteVal p.time) ∨
      ∀ q ∈ pts, Point.Passed e q := by
  have hpassed : ∀ q ∈ pts, F32.finiteVal q.time ≤ e → Point.Passed e q :=
    fun q hq hle => ⟨_, F32.val_of_finite (hfinite q hq).1, hle⟩
  cases hfind : pts.find? (fun p => decide (e < F32.finiteVal p.time)) with
  | none =>
    refine .inr (fun q hq => hpassed q hq ?_)
    simpa using List.find?_eq_none.mp hfind q hq
  | some p =>
    obtain ⟨habove, pre, post, rfl, hbelow⟩ := List.find?_eq_some_iff_append.mp hfind
    refine .inl ⟨pre, p, post, rfl, fun q hq => hpassed q (List.mem_append_left _ hq) ?_, by simpa using habove⟩
    simpa using hbelow q hq

/-- Settles O38: the value is one of the ratios or lies between two of them, the origin's 0 among them. -/
theorem envelopeStaysInUnitRange : Obligations.EnvelopeStaysInUnitRange := by
  unfold Obligations.EnvelopeStaysInUnitRange
  intro e pts he hne hpts
  have hfinite : ∀ p ∈ pts, Point.Finite p := fun p hp => ⟨(hpts p hp).1, (hpts p hp).2.1⟩
  have hunit : ∀ p ∈ pts, F32.finiteVal p.ratio ∈ Set.Icc (0 : Rat) 1 := fun p hp => (hpts p hp).2.2
  have hratio : ∀ p ∈ pts, F32.val p.ratio = some (F32.finiteVal p.ratio) :=
    fun p hp => F32.val_of_finite (hfinite p hp).2
  rcases selected_or_passed e hfinite with ⟨pre, p, post, rfl, hpre, hlt⟩ | hall
  · have hp : p ∈ pre ++ p :: post := by simp
    rw [ratio_selected hpre (F32.val_of_finite (hfinite p hp).1) hlt]
    rcases pre.eq_nil_or_concat' with rfl | ⟨pre', q, rfl⟩
    · exact ⟨_, segmentRatio_origin (hratio p hp) e _,
        interpolate_mem_unit he hlt (Set.left_mem_Icc.mpr zero_le_one) (hunit p hp)⟩
    · have hq : q ∈ pre' ++ [q] ++ p :: post := by simp
      obtain ⟨ts, hts, hle⟩ := hpre q (by simp)
      rw [lastPassed_concat hts]
      exact ⟨_, segmentRatio_between (hratio q hq) (hratio p hp) e ts _,
        interpolate_mem_unit hle hlt (hunit q hq) (hunit p hp)⟩
  · obtain ⟨pre, p, rfl⟩ := (pts.eq_nil_or_concat').resolve_left hne
    have hp : p ∈ pre ++ [p] := by simp
    exact ⟨_, (ratio_held hall).trans (readRatio_of_finite (hfinite p hp)), hunit p hp⟩

/-! ## Forms without a value (R141, R149) -/

theorem readRatio_of_unreadable {p : Point} (h : F32.val p.ratio = none) : readRatio p = .error .nonFinite := by
  rw [readRatio, h]

theorem readRatio_error {p : Point} {why : Reason} (h : readRatio p = .error why) : why = .nonFinite := by
  unfold readRatio at h
  split at h <;> cases h
  rfl

theorem segmentRatio_of_unreadable_start {q : Point} (h : F32.val q.ratio = none) (e ts ti : Rat) (p : Point) :
    segmentRatio e (some (ts, q)) ti p = .error .nonFinite := by
  rw [segmentRatio, readRatio_of_unreadable h]

theorem segmentRatio_error {e ti : Rat} {prev : Option (Rat × Point)} {p : Point} {why : Reason}
    (h : segmentRatio e prev ti p = .error why) : why = .nonFinite := by
  unfold segmentRatio at h
  split at h
  next =>
    split at h
    next => cases h
    next hp => cases h; exact readRatio_error hp
  next =>
    split at h
    next => cases h
    next hq => cases h; exact readRatio_error hq
    next hp => cases h; exact readRatio_error hp

/-- The ratio of a selected breakpoint is read whatever starts the segment. -/
theorem segmentRatio_of_unreadable_end {p : Point} (h : F32.val p.ratio = none) (e ti : Rat)
    (prev : Option (Rat × Point)) : segmentRatio e prev ti p = .error .nonFinite := by
  cases prev with
  | none => rw [segmentRatio, readRatio_of_unreadable h]
  | some start =>
    obtain ⟨ts, q⟩ := start
    cases hq : F32.val q.ratio with
    | none => exact segmentRatio_of_unreadable_start hq e ts ti p
    | some rs => rw [segmentRatio, readRatio_of_val hq, readRatio_of_unreadable h]

/-- Once there is a breakpoint to read, the only refusal is that of a field that is not finite. -/
theorem scan_error {e : Rat} {pts : List Point} {why : Reason} :
    ∀ {prev : Option (Rat × Point)}, (prev = none → pts ≠ []) → scan e prev pts = .error why →
      why = .nonFinite := by
  induction pts with
  | nil =>
    intro prev hsome h
    cases prev with
    | none => exact absurd rfl (hsome rfl)
    | some q => exact readRatio_error h
  | cons p rest ih =>
    intro prev _ h
    cases htime : F32.val p.time with
    | none =>
      rw [scan_unreadable htime] at h
      cases h
      rfl
    | some t =>
      rcases lt_or_ge e t with hlt | hle
      · exact segmentRatio_error ((scan_selected htime hlt prev rest).symm.trans h)
      · exact ih (prev := some (t, p)) nofun ((scan_passed htime hle prev rest).symm.trans h)

/-- A form that the stride visits is not empty, so it is never refused EMPTY_FORM (R141, R207). -/
theorem ratio_form_error {e : Rat} {k : Channel} {why : Reason} (hcount : 0 < effCount k.numPoints)
    (h : ratio e (form k) = .error why) : why = .nonFinite := by
  refine scan_error (fun _ hnil => ?_) h
  rcases List.take_eq_nil_iff.mp hnil with hzero | hempty
  · exact hcount.ne' hzero
  · cases hempty

/-- Settles O39: one clause for each field that the scan reads behind the breakpoints it has passed. -/
theorem envelopeRefusesNonFinite : Obligations.EnvelopeRefusesNonFinite := by
  unfold Obligations.EnvelopeRefusesNonFinite
  intro e pre post p
  refine ⟨rfl, fun hpre => ⟨fun htime => ?_, fun t htime hlt hratio => ?_, ?_, fun t htime hle hratio => ?_⟩⟩
  · rw [ratio_append hpre, scan_unreadable htime]
  · rw [ratio_selected hpre htime hlt, segmentRatio_of_unreadable_end hratio]
  · rintro t pre' q htime hlt rfl hratio
    obtain ⟨ts, hts, -⟩ := hpre q (by simp)
    rw [ratio_selected hpre htime hlt, lastPassed_concat hts, segmentRatio_of_unreadable_start hratio]
  · have hall : ∀ q ∈ pre ++ [p], Point.Passed e q :=
      List.forall_mem_append.mpr ⟨hpre, List.forall_mem_singleton.mpr ⟨t, htime, hle⟩⟩
    rw [ratio_held hall, readRatio_of_unreadable hratio]

end Sys2Proof.Machine
end

section
/-! SUPPORT. One rendered sample (spec/42_renderer.md R206 to R211): the volumes of the stride, the clocking of the
engine, and the one way a sample is refused. -/

namespace Sys2Proof.Machine

open Sys2Proof

/-! ## Sequences of parts (R273) -/

/-- A sequence is refused for the reason of one of its parts. -/
theorem Effect.forEach_raised {α β : Type} {P : Reason → Prop} {f : β → α → Effect α}
    (hf : ∀ {b a why u}, f b a = .raised why u → P why) {bs : List β} {why : Reason} {u : α} :
    ∀ {a : α}, Effect.forEach f bs a = .raised why u → P why := by
  induction bs with
  | nil => exact nofun
  | cons b rest ih =>
    intro a h
    rw [Effect.forEach] at h
    cases hb : f b a with
    | done a' =>
      rw [hb] at h
      exact ih h
    | raised why' u' =>
      rw [hb] at h
      cases h
      exact hf hb

/-! ## The volumes of the stride (R207) -/

/-- t follows s by at most n set_volume commands, in the same mode, and the engine has not answered in
between. -/
structure AppendsVolumes (n : Nat) (s t : State) : Prop where
  e : t.e = s.e
  answerIndex : t.answerIndex = s.answerIndex
  volumes : ∃ vols, t.trace = s.trace ++ vols ∧ vols.length ≤ n ∧ ∀ cmd ∈ vols, cmd.isSetVolume = true

theorem AppendsVolumes.refl (n : Nat) (s : State) : AppendsVolumes n s s :=
  ⟨rfl, rfl, [], (List.append_nil _).symm, Nat.zero_le n, nofun⟩

theorem AppendsVolumes.trans {m n : Nat} {s t u : State} (h : AppendsVolumes m s t)
    (k : AppendsVolumes n t u) : AppendsVolumes (n + m) s u := by
  obtain ⟨xs, hxs, hm, hxvol⟩ := h.volumes
  obtain ⟨ys, hys, hn, hyvol⟩ := k.volumes
  refine ⟨k.e.trans h.e, k.answerIndex.trans h.answerIndex, xs ++ ys, by rw [hys, hxs, List.append_assoc], ?_,
    List.forall_mem_append.mpr ⟨hxvol, hyvol⟩⟩
  rw [List.length_append]
  omega

theorem updateVolume_appendsVolumes (c : Chan) (v : Nat) (s : State) :
    AppendsVolumes 1 s (updateVolume c v s) := by
  unfold updateVolume
  split
  · exact .refl 1 s
  · rcases emit_cases (.setVolume c v) s with ⟨-, heq⟩ | ⟨-, heq⟩ <;> rw [heq]
    · exact ⟨rfl, rfl, [.setVolume c v], rfl, le_rfl, List.forall_mem_singleton.mpr rfl⟩
    · exact ⟨rfl, rfl, (AppendsVolumes.refl 1 s).volumes⟩

theorem strideChannel_appendsVolumes {t : Rat} {c : Chan} {s u : State}
    (h : strideChannel t c s = .done u) : AppendsVolumes 1 s u := by
  unfold strideChannel at h
  split at h
  · split at h <;> cases h
    exact updateVolume_appendsVolumes c _ s
  · cases h
    exact .refl 1 s

theorem strideChannels_appendsVolumes {t : Rat} {cs : List Chan} {u : State} :
    ∀ {s : State}, Effect.forEach (strideChannel t) cs s = .done u → AppendsVolumes cs.length s u := by
  induction cs with
  | nil =>
    intro s h
    cases h
    exact .refl 0 _
  | cons c rest ih =>
    intro s h
    obtain ⟨s', hchannel, hrest⟩ := Effect.andThen_eq_done h
    exact (strideChannel_appendsVolumes hchannel).trans (ih hrest)

theorem strideRecompute_appendsVolumes {t : Rat} {s u : State} (h : strideRecompute t s = .done u) :
    AppendsVolumes 3 s u :=
  strideChannels_appendsVolumes h

/-- The stride is refused only by an evaluation, and it evaluates no empty form (R141, R149). -/
theorem strideChannel_raised {t : Rat} {c : Chan} {s u : State} {why : Reason}
    (h : strideChannel t c s = .raised why u) : why = .nonFinite := by
  unfold strideChannel at h
  split at h
  next hvisit =>
    obtain ⟨-, hcount⟩ := hvisit
    split at h
    next => cases h
    next herror =>
      cases h
      exact ratio_form_error hcount herror
  next => cases h

theorem strideRecompute_raised {t : Rat} {s u : State} {why : Reason}
    (h : strideRecompute t s = .raised why u) : why = .nonFinite :=
  Effect.forEach_raised strideChannel_raised h

/-! ## Clocking the engine (R206, R211) -/

theorem clockEngine_trace (numOut i : Nat) {r : Rendering} (h : r.st.e.active = true) :
    (clockEngine numOut i r).st.trace = r.st.trace ++ [.process, .removeDc] := by
  simp [clockEngine, h]

@[simp] theorem clockEngine_answerIndex (numOut i : Nat) (r : Rendering) :
    (clockEngine numOut i r).st.answerIndex = r.st.answerIndex + 1 := by
  simp [clockEngine]

/-- The answer copied is the one to the commands emitted so far (log 5). -/
theorem clockEngine_out (numOut i : Nat) (r : Rendering) : (clockEngine numOut i r).out =
    outputCopy numOut i (Config.engineAnswer r.st.answerIndex (clockEngine numOut i r).st.trace).1
      (Config.engineAnswer r.st.answerIndex (clockEngine numOut i r).st.trace).2 r.out := by
  simp only [clockEngine, emit_answerIndex, State.countAnswer_trace]

/-! ## What a sample can do (R206, R273) -/

/-- A sample that is not refused clocks the engine, on the stride after the recomputation. -/
theorem renderSample_done {tBlk : Rat} {numOut i : Nat} {r r' : Rendering}
    (h : renderSample tBlk numOut i r = .done r') :
    ∃ u, r' = clockEngine numOut i { r with st := u } ∧
      (i % 25 = 0 → strideRecompute (sampleTime tBlk i r.st) r.st = .done u) ∧
      (i % 25 ≠ 0 → u = r.st) := by
  unfold renderSample at h
  split at h
  next hstride =>
    split at h
    next u hu =>
      cases h
      exact ⟨u, rfl, fun _ => hu, fun hoff => absurd hstride hoff⟩
    next => cases h
  next hoff =>
    cases h
    exact ⟨r.st, rfl, fun hstride => absurd hstride hoff, fun _ => rfl⟩

/-- A refused sample is one on the stride whose recomputation is refused, and the engine is not clocked. -/
theorem renderSample_raised {tBlk : Rat} {numOut i : Nat} {r r' : Rendering} {why : Reason}
    (h : renderSample tBlk numOut i r = .raised why r') :
    i % 25 = 0 ∧ r'.out = r.out ∧ strideRecompute (sampleTime tBlk i r.st) r.st = .raised why r'.st := by
  unfold renderSample at h
  split at h
  next hstride =>
    split at h
    next => cases h
    next u hu =>
      cases h
      exact ⟨hstride, rfl, hu⟩
  next => cases h

/-- Settles O46: the volumes come from the recomputation, on the stride, and all else from the clocking. -/
theorem sampleEmissions : Obligations.SampleEmissions := by
  unfold Obligations.SampleEmissions
  intro tBlk numOut i r r' hactive
  refine ⟨fun h => ?_, fun why h => ?_⟩
  · obtain ⟨u, rfl, hon, hoff⟩ := renderSample_done h
    have hvols : AppendsVolumes 3 r.st u := by
      by_cases hstride : i % 25 = 0
      · exact strideRecompute_appendsVolumes (hon hstride)
      · rw [hoff hstride]
        exact .refl 3 r.st
    obtain ⟨he, hanswer, vols, htrace, hlength, hvolumes⟩ := hvols
    have hclock := clockEngine_trace numOut i (r := { r with st := u }) (he ▸ hactive)
    refine ⟨⟨vols, ?_, hlength, hvolumes, fun hstride => ?_, fun hstride => ⟨u, hon hstride, htrace⟩⟩, ?_, ?_⟩
    · rw [hclock, htrace]
    · rw [hoff hstride] at htrace
      exact List.self_eq_append_right.mp htrace
    · rw [← hanswer]
      exact clockEngine_out ..
    · rw [clockEngine_answerIndex, hanswer]
  · obtain ⟨hstride, hout, hraised⟩ := renderSample_raised h
    obtain rfl := strideRecompute_raised hraised
    exact ⟨hstride, rfl, hout, hraised⟩

end Sys2Proof.Machine
end

section
/-! SUPPORT. Two numbers of the event rules (spec/00_scope.md R9, spec/41_events.md R165, R168): the tone period as
a floor, and the fractions that binary32 holds exactly. -/

namespace Sys2Proof.Machine

open Sys2Proof

/-! ## The tone period (R165) -/

/-- The two branches of the frequency are the two signs of one integer power. -/
theorem toneFreq_eq_zpow (key : BitVec 7) :
    toneFreq key = 440 * (1059463 / 1000000 : ℚ) ^ ((key.toNat : ℤ) - 57) := by
  unfold toneFreq
  split_ifs with h
  · rw [show (key.toNat : ℤ) - 57 = (key.toNat - 57 : ℕ) by omega, zpow_natCast]
  · rw [show (key.toNat : ℤ) - 57 = -(57 - key.toNat : ℕ) by omega, zpow_neg, zpow_natCast, div_eq_mul_inv]

theorem truncRat_of_nonneg {q : ℚ} (h : 0 ≤ q) : truncRat q = ⌊q⌋ := by
  rw [truncRat, if_pos h]
  rfl

/-- For the clocks of an emission the truncation is a floor, and no sign is lost. -/
theorem tonePeriod_eq_floor {clock : ℤ} (h : 0 ≤ clock) (key : BitVec 7) : (tonePeriod clock key : ℤ) =
    ⌊(clock : ℚ) / (16 * (440 * (1059463 / 1000000 : ℚ) ^ ((key.toNat : ℤ) - 57)))⌋ := by
  have hquot : 0 ≤ (clock : ℚ) / (16 * toneFreq key) := by
    rw [toneFreq_eq_zpow]
    positivity
  rw [tonePeriod, truncRat_of_nonneg hquot, Int.toNat_of_nonneg (Int.floor_nonneg.mpr hquot), toneFreq_eq_zpow]

/-- Settles O22: the two end values are floors of the formula. -/
theorem tonePeriodFormula : Obligations.TonePeriodFormula := by
  unfold Obligations.TonePeriodFormula
  intro clock key hclock
  refine ⟨tonePeriod_eq_floor (by omega) key, ?_, ?_⟩
  · rw [← Nat.cast_inj (R := ℤ), tonePeriod_eq_floor (by norm_num), Int.floor_eq_iff,
      show (0 : BitVec 7).toNat = 0 from rfl]
    norm_num
  · rw [← Nat.cast_inj (R := ℤ), tonePeriod_eq_floor (by norm_num), Int.floor_eq_iff,
      show (127 : BitVec 7).toNat = 127 from rfl]
    norm_num

/-! ## Binary fractions (R9, R168) -/

/-- Rounding does not move an integer. -/
theorem NearestEven.eq_of_int {m j : ℤ} {x : ℚ} (h : NearestEven m x) (hx : x = j) : m = j :=
  le_antisymm (h.le hx.le) (h.ge hx.ge)

/-- The exponent of a dyadic fraction of at most 24 significant bits has a unit that divides it. -/
theorem F32.Rounds.exponent_le {k m n j : ℕ} (h : F32.Rounds k m ((n : ℚ) / 2 ^ j)) (hn : n < 2 ^ 24)
    (hj : j ≤ 149) : k + j ≤ 149 := by
  rcases h.binade with rfl | hbinade
  · omega
  · have hlt : (2 : ℚ) ^ ((k : ℤ) - 126) < 2 ^ ((24 : ℤ) - j) := by
      refine hbinade.trans_lt ?_
      rw [zpow_sub₀ two_ne_zero, zpow_natCast]
      gcongr
      exact_mod_cast hn
    have hexp := (zpow_lt_zpow_iff_right₀ one_lt_two).mp hlt
    omega

/-- Such a fraction counted in units of exponent k. -/
theorem dyadic_div_unit {k n j : ℕ} (h : k + j ≤ 149) :
    (n : ℚ) / 2 ^ j / 2 ^ ((k : ℤ) - 149) = (n * 2 ^ (149 - (k + j)) : ℤ) := by
  rw [div_div, ← zpow_natCast, ← zpow_add₀ two_ne_zero,
    show (j : ℤ) + (k - 149) = -(149 - (k + j) : ℕ) by omega, zpow_neg, zpow_natCast, div_inv_eq_mul]
  push_cast
  rfl

theorem dyadic_in_range {n : ℕ} (hn : n < 2 ^ 24) (j : ℕ) : |(n : ℚ) / 2 ^ j| ≤ (2 ^ 24 - 1) * 2 ^ 104 := by
  have hn' : (n : ℚ) ≤ (2 ^ 24 - 1 : ℕ) := by exact_mod_cast Nat.le_sub_one_of_lt hn
  rw [abs_of_nonneg (by positivity)]
  calc (n : ℚ) / 2 ^ j ≤ n := div_le_self n.cast_nonneg (one_le_pow₀ one_le_two)
    _ ≤ (2 ^ 24 - 1) * 2 ^ 104 := hn'.trans (by norm_num)

/-- A fraction of at most 24 significant bits, down to the smallest unit, is exact in binary32: rounding to a
whole number of units does not move it. -/
theorem val_toF32_dyadic {n j : ℕ} (hn : n < 2 ^ 24) (hj : j ≤ 149) :
    F32.val (toF32 ((n : ℚ) / 2 ^ j)) = some ((n : ℚ) / 2 ^ j) := by
  rcases eq_or_ne n 0 with rfl | hn0
  · rw [Nat.cast_zero, zero_div, F32.val_of_finite (by decide), finiteVal_toF32_zero]
  have hpos : 0 < (n : ℚ) / 2 ^ j := by positivity
  obtain ⟨k, m, hround, hfinite, hval, -⟩ := toF32_rounds hpos.ne' (dyadic_in_range hn j)
  rw [abs_of_pos hpos] at hround
  have hunits := dyadic_div_unit (n := n) (hround.exponent_le hn hj)
  have hm := hround.nearest.eq_of_int hunits
  rw [F32.val_of_finite hfinite, hval, if_neg hpos.le.not_gt, one_mul, ← Int.cast_natCast, hm, ← hunits,
    div_mul_cancel₀ _ (by positivity)]

end Sys2Proof.Machine
end

section
/-! SUPPORT. The effect of each event on the whole state (spec/41_events.md R162 to R182): what it stores, the
commands it emits in their order, and that it changes nothing else. -/

namespace Sys2Proof.Machine

open Sys2Proof

/-! ## Stores and the emissions after them (R11) -/

/-- s with the commands cmds emitted. -/
def State.withEmitted (s : State) (cmds : List EngineCmd) : State := { s with trace := s.emitted cmds }

theorem emit_eq_withEmitted (cmd : EngineCmd) (s : State) : emit cmd s = s.withEmitted [cmd] := emit_eq cmd s

/-- Later commands come last. -/
@[simp] theorem State.withEmitted_withEmitted (s : State) (xs ys : List EngineCmd) :
    (s.withEmitted xs).withEmitted ys = s.withEmitted (xs ++ ys) := by
  cases h : s.e.active <;> simp [State.withEmitted, State.emitted, h]

@[simp] theorem State.withEmitted_cfg (s : State) (cmds : List EngineCmd) : (s.withEmitted cmds).cfg = s.cfg := rfl

@[simp] theorem State.withEmitted_rt (s : State) (cmds : List EngineCmd) : (s.withEmitted cmds).rt = s.rt := rfl

@[simp] theorem State.withEmitted_setRt (s : State) (cmds : List EngineCmd) (c : Chan) (r : Runtime) :
    (s.withEmitted cmds).setRt c r = (s.setRt c r).withEmitted cmds := rfl

theorem State.setRt_setRt (s : State) (c : Chan) (q r : Runtime) : (s.setRt c q).setRt c r = s.setRt c r := by
  simp [State.setRt]

/-! ## Operands (R161, R166, R182) -/

/-- The model's clamp of an int32 word is the one of the statements. -/
theorem clampInt_toNat (w : Word32) (hi : ℕ) : (clampInt (sext32 w) 0 hi).toNat = clampedWord hi w := by
  unfold clampInt clampedWord sext32
  split_ifs <;> omega

/-- A bit of a stored number below 2^32 is a bit of the number. -/
theorem word32_bit (n : ℕ) {i : ℕ} (hi : i < 32) : (word32 n).getLsbD i = n.testBit i := by
  rw [word32, BitVec.getLsbD_ofNat, decide_eq_true hi, Bool.true_and]

/-- A field that starts at bit 0 is a remainder. -/
theorem lowField_toNat (v : BitVec 7) (len : ℕ) : (v.extractLsb' 0 len).toNat = v.toNat % 2 ^ len := by
  rw [toNat_extractLsb'_eq_mod, pow_zero, Nat.div_one]

theorem programNoise_eq (pv : BitVec 7) : programNoise pv = pv.toNat % 32 := lowField_toNat pv 5

/-- pv[7] is 0, so that pv[7:5] is all of pv above the noise field. -/
theorem programMixer_eq (pv : BitVec 7) : programMixer pv = pv.toNat / 32 := by
  have hpv : pv.toNat < 128 := pv.isLt
  rw [programMixer, toNat_extractLsb'_eq_mod]
  omega

/-- The enables of a ProgramChange are pv[5], pv[6] and pv[7] = 0. -/
theorem mixerCmd_program (c : Chan) (pv : BitVec 7) :
    mixerCmd c (word32 (pv.toNat / 32)) = .setMixer c (pv.getLsbD 5) (pv.getLsbD 6) false := by
  have hbit : ∀ i, i < 32 → (word32 (pv.toNat / 32)).getLsbD i = pv.getLsbD (i + 5) := fun i hi => by
    rw [word32_bit _ hi, ← BitVec.testBit_toNat]
    exact Nat.testBit_div_two_pow (n := 5) ..
  rw [mixerCmd, hbit 0 (by decide), hbit 1 (by decide), hbit 2 (by decide), BitVec.getLsbD_of_ge pv 7 le_rfl]

/-- The enables of CC_BANK are v[0], v[1] and v[2]. -/
theorem mixerCmd_bank (c : Chan) (v : BitVec 7) :
    mixerCmd c (word32 (v.toNat % 8)) = .setMixer c (v.getLsbD 0) (v.getLsbD 1) (v.getLsbD 2) := by
  have hbit : ∀ i, i < 3 → (word32 (v.toNat % 8)).getLsbD i = v.getLsbD i := fun i hi => by
    rw [word32_bit _ (by omega), ← BitVec.testBit_toNat, show 8 = 2 ^ 3 from rfl, Nat.testBit_mod_two_pow,
      decide_eq_true hi, Bool.true_and]
  rw [mixerCmd, hbit 0 (by decide), hbit 1 (by decide), hbit 2 (by decide)]

theorem bendOf_eq (lsb msb : BitVec 7) : bendOf lsb msb = BitVec.ofNat 14 (msb.toNat * 128 + lsb.toNat) := by
  have hsum : (bendOf lsb msb).toNat = msb.toNat * 128 + lsb.toNat := toNat_append_eq_add msb lsb
  rw [← hsum, BitVec.ofNat_toNat, BitVec.setWidth_eq]

/-! ## Notes (R162 to R164) -/

/-- The shape command of a NoteOff, if the configuration asks for one (R162, D13). -/
def perturbCmds (cfg : Config) : List EngineCmd :=
  match cfg.noteOffPerturb with
  | none => []
  | some shape => [.setEnvelopeShape shape.toNat]

theorem perturbShape_withEmitted (s : State) (cmds : List EngineCmd) :
    perturbShape (s.withEmitted cmds) = s.withEmitted (cmds ++ perturbCmds s.cfg) := by
  unfold perturbShape perturbCmds
  rw [State.withEmitted_cfg]
  cases s.cfg.noteOffPerturb with
  | none => rw [List.append_nil]
  | some shape => exact (emit_eq_withEmitted ..).trans (s.withEmitted_withEmitted ..)

theorem releaseVoice_of_released {s : State} {c : Chan} (h : (s.rt.get c).noteOn = false) :
    releaseVoice c s = s := if_pos h

theorem releaseVoice_of_sounding {s : State} {c : Chan} (h : (s.rt.get c).noteOn = true) :
    releaseVoice c s = (s.setRt c { s.rt.get c with noteOn := false }).withEmitted
      (.setMixer c false false false :: perturbCmds s.cfg) := by
  have hon : ¬ s.noteOn c = false := by simp [State.noteOn, h]
  rw [releaseVoice, if_neg hon, emit_eq_withEmitted, perturbShape_withEmitted]
  rfl

theorem startVoice_of_sounding {s : State} {c : Chan} (h : (s.rt.get c).noteOn = true) (key : BitVec 7) :
    startVoice c key s = s := if_pos h

theorem startVoice_of_released {s : State} {c : Chan} (h : (s.rt.get c).noteOn = false) (key : BitVec 7) :
    startVoice c key s =
      (s.setRt c { s.rt.get c with noteOn := true, startTime := s.e.elapsed }).withEmitted
        [mixerCmd c (s.ch.get c).mixer, .setEnvelopeShape (apShape s.g.envShape),
          .setTone c (tonePeriod (sext32 s.g.clockRate) key)] := by
  have hoff : ¬ s.noteOn c = true := by simp [State.noteOn, h]
  simp only [startVoice, if_neg hoff, emitMixer, emit_eq_withEmitted, State.withEmitted_withEmitted,
    State.setStartTime_eq, State.setNoteOn_eq, State.withEmitted_rt, State.withEmitted_setRt, State.setRt_rt,
    State.setRt_setRt, PerCh.get_set_same]
  rfl

/-- Settles O20: NOTEOFF and NOTEON_V0 are the same release. -/
theorem noteOffReleasesChannel : Obligations.NoteOffReleasesChannel := by
  unfold Obligations.NoteOffReleasesChannel
  intro s c key vel released
  have hreleased : releaseVoice c s = released := by
    dsimp only [released]
    split_ifs with h
    · exact releaseVoice_of_released h
    · exact releaseVoice_of_sounding (Bool.eq_true_of_not_eq_false h)
  exact ⟨congrArg Host.Outcome.next hreleased, congrArg Host.Outcome.next hreleased⟩

/-- Settles O21. The velocity is no operand of the start of a note. -/
theorem noteOnStartsChannel : Obligations.NoteOnStartsChannel := by
  unfold Obligations.NoteOnStartsChannel
  intro s c key vel
  refine congrArg Host.Outcome.next ?_
  split_ifs with h
  · exact startVoice_of_sounding h key
  · rw [startVoice_of_released (Bool.eq_false_of_not_eq_true h), apShape, clampInt_toNat]
    rfl

/-! ## ProgramChange and the plain controllers (R166 to R175) -/

/-- The two stores of a ProgramChange: the noise period of the block and the mixer of channel c. -/
def State.setProgram (s : State) (c : Chan) (noise mixer : Word32) : State :=
  (s.setG { s.g with noisePeriod := noise }).setMixer c mixer

theorem changeProgram_eq (c : Chan) (pv : BitVec 7) (s : State) : changeProgram c pv s =
    (s.setProgram c (word32 (programNoise pv)) (word32 (programMixer pv))).withEmitted
      [.setNoise (programNoise pv), mixerCmd c (word32 (programMixer pv))] := by
  simp only [changeProgram, emitMixer, emit_eq_withEmitted, State.withEmitted_withEmitted]
  rfl

/-- Settles O23: both stores come before both emissions. -/
theorem programChangeStoresNoiseAndMixer : Obligations.ProgramChangeStoresNoiseAndMixer := by
  unfold Obligations.ProgramChangeStoresNoiseAndMixer
  intro s c pv low
  refine congrArg Host.Outcome.next ?_
  rw [changeProgram_eq, programNoise_eq, programMixer_eq, mixerCmd_program]
  rfl

/-- Settles O24: the note state is not read. -/
theorem bankSelectWritesMixer : Obligations.BankSelectWritesMixer := by
  unfold Obligations.BankSelectWritesMixer
  intro s c v
  have hfield : (v.extractLsb' 0 3).toNat = v.toNat % 8 := lowField_toNat v 3
  refine congrArg Host.Outcome.next ?_
  rw [← mixerCmd_bank, writeBank, hfield]
  exact emit_eq_withEmitted ..

/-- Settles O25: v / 128 has seven significant bits, so that its pattern is exact. -/
theorem panControllerStoresExactPan : Obligations.PanControllerStoresExactPan := by
  unfold Obligations.PanControllerStoresExactPan
  intro s c v
  have hexact := val_toF32_dyadic (n := v.toNat) (j := 7) (v.isLt.trans (by decide)) (by decide)
  rw [show (2 : ℚ) ^ 7 = 128 by norm_num] at hexact
  exact ⟨congrArg Host.Outcome.next (emit_eq_withEmitted ..), hexact⟩

/-- Settles O26: one store and one emission. -/
theorem volumeControllerStoresVolume : Obligations.VolumeControllerStoresVolume := by
  unfold Obligations.VolumeControllerStoresVolume
  exact fun s c v => congrArg Host.Outcome.next (emit_eq_withEmitted ..)

/-- The register of the three fragments, saturated. -/
theorem composedPeriod_eq (x : Fragments) :
    composedPeriod x = min (x.h.toNat * 2 ^ 14 + x.m.toNat * 2 ^ 7 + x.l.toNat) 65535 := by
  rw [composedPeriod, periodRegister_eq]
  rfl

/-- What a fragment controller does once its fragment is stored. -/
theorem composePeriod_eq (s : State) : composePeriod s = { s with
    g := { s.g with envPeriod := word32 (composedPeriod s.x) }
    trace := s.emitted [.setEnvelope (composedPeriod s.x)] } :=
  emit_eq_withEmitted ..

/-- Settles O27: the three controllers differ in the fragment they store and share the composition. -/
theorem fragmentControllersComposePeriod : Obligations.FragmentControllersComposePeriod := by
  unfold Obligations.FragmentControllersComposePeriod
  intro s c v composed
  have hcomposed : ∀ x, composePeriod (s.setX x) = composed x := fun x => by
    rw [composePeriod_eq, State.setX_x, composedPeriod_eq]
    rfl
  exact ⟨congrArg Host.Outcome.next (hcomposed _), congrArg Host.Outcome.next (hcomposed _),
    congrArg Host.Outcome.next (hcomposed _)⟩

/-- Settles O29: a store with its emission, and an emission alone. -/
theorem shapeAndDcControllers : Obligations.ShapeAndDcControllers := by
  unfold Obligations.ShapeAndDcControllers
  intro s c v
  have hfield : (v.extractLsb' 0 4).toNat = v.toNat % 16 := lowField_toNat v 4
  refine ⟨congrArg Host.Outcome.next ?_, congrArg Host.Outcome.next (emit_eq_withEmitted ..)⟩
  rw [writeShape, hfield]
  exact emit_eq_withEmitted ..

/-! ## What is only stored (R178 to R182) -/

/-- Settles O30: each is one store of a part of the channel, for each of the six breakpoints. -/
theorem swenvControllersStoreForm : Obligations.SwenvControllersStoreForm := by
  unfold Obligations.SwenvControllersStoreForm
  intro s c v
  refine ⟨rfl, fun k => ?_, fun k => ?_⟩
  · cases k <;> rfl
  · cases k <;> rfl

/-- Settles O31: the 14 bits of msb ++ lsb are those of the sum. -/
theorem pitchBendIsStoredOnly : Obligations.PitchBendIsStoredOnly := by
  unfold Obligations.PitchBendIsStoredOnly
  intro s c lsb msb
  rw [← bendOf_eq]
  rfl

end Sys2Proof.Machine
end

section
/-! SUPPORT. An event applied twice (spec/41_events.md R160, R184): each event makes one idempotent store, which does
not read what was emitted. -/

namespace Sys2Proof.Machine

open Sys2Proof

/-! ## Storing the same part twice -/

theorem State.setMixer_setMixer (s : State) (c : Chan) (w : Word32) :
    (s.setMixer c w).setMixer c w = s.setMixer c w := by simp [State.setMixer_eq, State.setCh]

theorem State.setVolume_setVolume (s : State) (c : Chan) (w : Word32) :
    (s.setVolume c w).setVolume c w = s.setVolume c w := by simp [State.setVolume_eq, State.setCh]

theorem State.setPan_setPan (s : State) (c : Chan) (w : F32) :
    (s.setPan c w).setPan c w = s.setPan c w := by simp [State.setPan_eq, State.setCh]

theorem State.setNumPoints_setNumPoints (s : State) (c : Chan) (w : Word32) :
    (s.setNumPoints c w).setNumPoints c w = s.setNumPoints c w := by simp [State.setNumPoints_eq, State.setCh]

theorem State.setTime_setTime (s : State) (c : Chan) (k : PtIdx) (w : F32) :
    (s.setTime c k w).setTime c k w = s.setTime c k w := by simp [State.setTime_eq, State.setCh]

theorem State.setRatio_setRatio (s : State) (c : Chan) (k : PtIdx) (w : F32) :
    (s.setRatio c k w).setRatio c k w = s.setRatio c k w := by simp [State.setRatio_eq, State.setCh]

theorem storeBend_storeBend (c : Chan) (lsb msb : BitVec 7) (s : State) :
    storeBend c lsb msb (storeBend c lsb msb s) = storeBend c lsb msb s := by simp [storeBend, State.setE]

theorem State.setProgram_setProgram (s : State) (c : Chan) (noise mixer : Word32) :
    (s.setProgram c noise mixer).setProgram c noise mixer = s.setProgram c noise mixer := by
  simp [State.setProgram, State.setMixer_eq, State.setCh, State.setG]

/-- A released channel does nothing on a second release (R162). -/
theorem releaseVoice_releaseVoice (c : Chan) (s : State) :
    releaseVoice c (releaseVoice c s) = releaseVoice c s := by
  refine releaseVoice_of_released ?_
  cases h : (s.rt.get c).noteOn with
  | false => rw [releaseVoice_of_released h, h]
  | true => simp [releaseVoice_of_sounding h]

/-- A sounding channel does nothing on a second start (R163). -/
theorem startVoice_startVoice (c : Chan) (key : BitVec 7) (s : State) :
    startVoice c key (startVoice c key s) = startVoice c key s := by
  refine startVoice_of_sounding ?_ key
  cases h : (s.rt.get c).noteOn with
  | true => rw [startVoice_of_sounding h, h]
  | false => simp [startVoice_of_released h]

/-! ## Events that store and emit (R184) -/

/-- Applied twice, the event leaves the stored state of one application. -/
def StoresOnce (i : Instr) : Prop :=
  ∀ s, (stateAfter (applyEvent i (stateAfter (applyEvent i s) s)) (stateAfter (applyEvent i s) s)).stored =
    (stateAfter (applyEvent i s) s).stored

/-- A silent event stores once if its store is idempotent. -/
theorem StoresOnce.of_silent {i : Instr} {f : State → State}
    (hi : ∀ s, stateAfter (applyEvent i s) s = f s) (hf : ∀ s, f (f s) = f s) : StoresOnce i := fun s => by
  rw [hi, hi, hf]

/-- An event that emits after an idempotent store stores once: the store does not read the trace. -/
theorem StoresOnce.of_emitting {i : Instr} {f : State → State} {cmds : State → List EngineCmd}
    (hi : ∀ s, stateAfter (applyEvent i s) s = (f s).withEmitted (cmds s))
    (htrace : ∀ s xs, f (s.withEmitted xs) = (f s).withEmitted xs) (hf : ∀ s, f (f s) = f s) :
    StoresOnce i := fun s => by
  rw [hi, hi, htrace, hf]
  rfl

/-- Every event stores once; what is no event is not applied at all. -/
theorem storesOnce (i : Instr) : StoresOnce i := by
  cases i with
  | noteOn c key _ => exact .of_silent (fun _ => rfl) (startVoice_startVoice c key)
  | noteOff c _ _ | noteOnV0 c _ => exact .of_silent (fun _ => rfl) (releaseVoice_releaseVoice c)
  | programChange c pv _ =>
    exact .of_emitting (changeProgram_eq c pv) (fun _ _ => rfl) (fun s => s.setProgram_setProgram c _ _)
  | ccBank c v =>
    exact .of_emitting (fun _ => emit_eq_withEmitted ..) (fun _ _ => rfl) (fun s => s.setMixer_setMixer c _)
  | ccVolume c v =>
    exact .of_emitting (fun _ => emit_eq_withEmitted ..) (fun _ _ => rfl) (fun s => s.setVolume_setVolume c _)
  | ccPan c v =>
    exact .of_emitting (fun _ => emit_eq_withEmitted ..) (fun _ _ => rfl) (fun s => s.setPan_setPan c _)
  | ccEperH | ccEperM | ccEperL | ccEshape | ccDcReset =>
    exact .of_emitting (fun _ => emit_eq_withEmitted ..) (fun _ _ => rfl) (fun _ => rfl)
  | ccSwenvCount c v => exact .of_silent (fun _ => rfl) (fun s => s.setNumPoints_setNumPoints c _)
  | ccSwenvTime0 c v | ccSwenvTime1 c v | ccSwenvTime2 c v | ccSwenvTime3 c v | ccSwenvTime4 c v
  | ccSwenvTime5 c v => exact .of_silent (fun _ => rfl) (fun s => s.setTime_setTime c _ _)
  | ccSwenvRatio0 c v | ccSwenvRatio1 c v | ccSwenvRatio2 c v | ccSwenvRatio3 c v | ccSwenvRatio4 c v
  | ccSwenvRatio5 c v => exact .of_silent (fun _ => rfl) (fun s => s.setRatio_setRatio c _ _)
  | pitchBend c lsb msb => exact .of_silent (fun _ => rfl) (storeBend_storeBend c lsb msb)
  | _ => exact .of_silent (fun _ => rfl) (fun _ => rfl)

/-- Settles O40: a word decodes to an event, and the two dispatchers agree on events. -/
theorem appliedWordIsExec : Obligations.AppliedWordIsExec := by
  unfold Obligations.AppliedWordIsExec
  exact exec_decodeEvent

/-- Settles O33: a ControlChange is an event, and every event stores once. -/
theorem controlChangeIsIdempotent : Obligations.ControlChangeIsIdempotent := by
  unfold Obligations.ControlChangeIsIdempotent
  intro m w s t u _ ht hu
  have hstores := storesOnce (decodeEvent m w) s
  rw [exec_eq_applyEvent (decodeEvent_isEvent m w)] at ht hu
  rwa [ht, stateAfter, hu] at hstores

end Sys2Proof.Machine
end

section
/-! SUPPORT. The numbers and the slots of one sample (spec/00_scope.md R10, spec/42_renderer.md R207 to R211): the
rounding of the effective volume, the stride recomputation of one channel, and what a sample copies where. -/

namespace Sys2Proof.Machine

open Sys2Proof

/-! ## Rounding half away from zero (R10) -/

theorem roundRat_of_nonneg {q : ℚ} (h : 0 ≤ q) : roundRat q = ⌊q + 1 / 2⌋ := if_pos h

theorem roundRat_of_neg {q : ℚ} (h : q < 0) : roundRat q = -⌊-q + 1 / 2⌋ := if_neg h.not_ge

/-- At a magnitude the floor of R10 is a nearest integer, and at a tie the one above. -/
theorem floor_add_half_nearest (q : ℚ) :
    |(⌊q + 1 / 2⌋ : ℚ) - q| ≤ 1 / 2 ∧ (|(⌊q + 1 / 2⌋ : ℚ) - q| = 1 / 2 → q < ⌊q + 1 / 2⌋) := by
  have hle := Int.floor_le (q + 1 / 2)
  have hlt := Int.lt_floor_add_one (q + 1 / 2)
  refine ⟨abs_le.mpr ⟨by linarith, by linarith⟩, fun htie => ?_⟩
  rcases eq_or_eq_neg_of_abs_eq htie with h | h <;> linarith

/-- Rounding is symmetric about zero, so the magnitude decides. -/
theorem roundRat_nearest (q : ℚ) :
    |(roundRat q : ℚ) - q| ≤ 1 / 2 ∧ (|(roundRat q : ℚ) - q| = 1 / 2 → |q| < |(roundRat q : ℚ)|) := by
  rcases le_or_gt 0 q with hq | hq
  · obtain ⟨hnear, htie⟩ := floor_add_half_nearest q
    rw [roundRat_of_nonneg hq, abs_of_nonneg hq]
    exact ⟨hnear, fun h => (htie h).trans_le (le_abs_self _)⟩
  · obtain ⟨hnear, htie⟩ := floor_add_half_nearest (-q)
    have hmirror : |((-⌊-q + 1 / 2⌋ : ℤ) : ℚ) - q| = |(⌊-q + 1 / 2⌋ : ℚ) - -q| := by
      rw [← abs_neg]
      push_cast
      ring_nf
    rw [roundRat_of_neg hq, hmirror, abs_of_neg hq, Int.cast_neg, abs_neg]
    exact ⟨hnear, fun h => (htie h).trans_le (le_abs_self _)⟩

/-- Rounding stays between 0 and an integer bound. -/
theorem roundRat_mem {q : ℚ} {n : ℕ} (h0 : 0 ≤ q) (hn : q ≤ n) : 0 ≤ roundRat q ∧ roundRat q ≤ n := by
  rw [roundRat_of_nonneg h0]
  refine ⟨Int.floor_nonneg.mpr (by positivity), Int.lt_add_one_iff.mp (Int.floor_lt.mpr ?_)⟩
  push_cast
  linarith

/-! ## The effective volume (R208) -/

theorem effVol_eq (vol : Word32) (r : ℚ) :
    effVol vol r = (max 0 (min 14 (roundRat ((vol.toInt : ℚ) * r)))).toNat := by
  unfold effVol clampInt sext32 Config.volMax
  split_ifs <;> omega

/-- Settles O35: a volume in 0..14 scaled by a ratio in [0, 1] rounds into 0..14, where the clamp is idle. -/
theorem effectiveVolumeRounds : Obligations.EffectiveVolumeRounds := by
  unfold Obligations.EffectiveVolumeRounds
  intro vol r
  refine ⟨effVol_eq vol r, roundRat_nearest, fun hvol0 hvol14 hr0 hr1 => ?_⟩
  have hvol0' : (0 : ℚ) ≤ vol.toInt := by exact_mod_cast hvol0
  have hvol14' : (vol.toInt : ℚ) ≤ (14 : ℕ) := by exact_mod_cast hvol14
  obtain ⟨hlo, hhi⟩ := roundRat_mem (mul_nonneg hvol0' hr0) ((mul_le_of_le_one_right hvol0' hr1).trans hvol14')
  rw [effVol_eq]
  omega

/-! ## The stride recomputation of one channel (R207) -/

/-- Channels 0, 1 and 2, one after the other. -/
theorem strideRecompute_eq (t : ℚ) (s : State) : strideRecompute t s =
    (strideChannel t .ch0 s).andThen (fun s0 => (strideChannel t .ch1 s0).andThen
      (fun s1 => strideChannel t .ch2 s1)) := by
  have hlast : ∀ u, Effect.forEach (strideChannel t) [.ch2] u = strideChannel t .ch2 u := fun u => by
    rw [Effect.forEach]
    cases strideChannel t .ch2 u <;> rfl
  simp only [strideRecompute, ← hlast]
  rfl

theorem effCount_eq_clampedWord (w : Word32) : effCount w = clampedWord 6 w := clampInt_toNat w Config.maxPts

/-- The form is empty exactly if the stored count is not positive (R38). -/
theorem effCount_pos_iff (w : Word32) : 0 < effCount w ↔ 0 < w.toInt := by
  rw [effCount_eq_clampedWord, clampedWord]
  omega

theorem form_eq (k : Channel) : form k = k.pts.toList.take (clampedWord 6 k.numPoints) := by
  rw [form, effCount_eq_clampedWord]

/-- Writing a volume to the engine and the cache, as one record. -/
theorem updateVolume_eq (c : Chan) (v : ℕ) (s : State) : updateVolume c v s =
    if (s.rt.get c).volCache = some v then s
    else { s with rt := s.rt.set c { s.rt.get c with volCache := some v }
                  trace := s.emitted [.setVolume c v] } := by
  unfold updateVolume
  rw [emit_eq_withEmitted]
  rfl

theorem strideChannel_of_skipped {c : Chan} {s : State}
    (h : (s.rt.get c).noteOn = false ∨ (s.ch.get c).numPoints.toInt ≤ 0) (t : ℚ) :
    strideChannel t c s = .done s := by
  refine if_neg ?_
  rintro ⟨hnote, hcount⟩
  rcases h with hoff | hempty
  · exact Bool.false_ne_true (hoff.symm.trans hnote)
  · exact hempty.not_gt ((effCount_pos_iff _).mp hcount)

theorem strideChannel_of_ratio {t r : ℚ} {c : Chan} {s : State} (hnote : (s.rt.get c).noteOn = true)
    (hcount : 0 < (s.ch.get c).numPoints.toInt)
    (hratio : ratio (t - (s.rt.get c).startTime) (form (s.ch.get c)) = .ok r) :
    strideChannel t c s = .done (updateVolume c (effVol (s.ch.get c).volume r) s) := by
  rw [strideChannel, if_pos ⟨hnote, (effCount_pos_iff _).mpr hcount⟩, hratio]

theorem strideChannel_of_error {t : ℚ} {c : Chan} {s : State} {why : Reason}
    (hnote : (s.rt.get c).noteOn = true) (hcount : 0 < (s.ch.get c).numPoints.toInt)
    (herror : ratio (t - (s.rt.get c).startTime) (form (s.ch.get c)) = .error why) :
    strideChannel t c s = .raised why s := by
  rw [strideChannel, if_pos ⟨hnote, (effCount_pos_iff _).mpr hcount⟩, herror]

/-- Settles O47: a channel is passed over, or its evaluation has a value or none. -/
theorem strideRecomputesVolumes : Obligations.StrideRecomputesVolumes := by
  unfold Obligations.StrideRecomputesVolumes
  intro t r c s
  refine ⟨strideRecompute_eq t s, fun hskipped => strideChannel_of_skipped hskipped t,
    fun hnote hcount hratio => ?_, fun why hnote hcount herror => ?_⟩
  · rw [← form_eq] at hratio
    rw [strideChannel_of_ratio hnote hcount hratio, updateVolume_eq]
  · rw [← form_eq] at herror
    obtain rfl := ratio_form_error ((effCount_pos_iff _).mpr hcount) herror
    exact ⟨rfl, strideChannel_of_error hnote hcount herror⟩

/-! ## The slots a sample is copied to (R211) -/

/-- A slot holds what was written to it last, if it exists; every other slot keeps what it held. -/
theorem writeSlot_slot_eq (out : Buffer) (k i m j : ℕ) (x : Sample) : (writeSlot out k i x).slot m j =
    if m = k ∧ j = i then (out.slot m j).map (fun _ => x) else out.slot m j := by
  split_ifs with h
  · obtain ⟨rfl, rfl⟩ := h
    unfold Buffer.slot writeSlot
    rw [List.getElem?_modify]
    cases out[m]? <;> simp [List.getElem?_set_self', Function.const_def]
  · exact writeSlot_slot out x h

/-- Settles O48: each number of output channels is a chain of writes, read back slot by slot. -/
theorem outputMapping : Obligations.OutputMapping := by
  unfold Obligations.OutputMapping
  intro numOut i l r out k j slots hk hj
  have hslot : out.slot k j = slots[j]? := by rw [Buffer.slot, hk]; rfl
  have hsome : slots[j]? = some slots[j] := List.getElem?_eq_getElem hj
  change (outputCopy numOut i l r out).slot k j = _
  match numOut with
  | 0 => simp [outputCopy, hslot]
  | 1 => simp [outputCopy, writeSlot_slot_eq, hslot, hsome, and_comm]
  | n + 2 =>
    rcases (by omega : k = 0 ∨ k = 1 ∨ 2 ≤ k) with rfl | rfl | hk2
    · simp [outputCopy, writeSlot_slot_eq, hslot, hsome]
    · simp [outputCopy, writeSlot_slot_eq, hslot, hsome]
    · simp [outputCopy, writeSlot_slot_eq, hslot, show k ≠ 0 by omega, show k ≠ 1 by omega]

end Sys2Proof.Machine
end

section
/-! SUPPORT. The check of a RENDER's list, the refusals a RENDER can end in, and a RENDER that renders nothing
(spec/42_renderer.md R201 to R205, R215 to R217). -/

namespace Sys2Proof.Machine

open Sys2Proof

/-! ## The upfront check (R201, R276) -/

theorem offsetsOrdered_iff_rise (events : List TimedEvent) : offsetsOrdered events = true ↔ OffsetsRise events := by
  refine ⟨fun h j a b ha hb => ?_, offsetsOrdered_of_rise⟩
  obtain ⟨_, rfl⟩ := List.getElem?_eq_some_iff.mp ha
  obtain ⟨hj, rfl⟩ := List.getElem?_eq_some_iff.mp hb
  exact List.isChain_iff_getElem.mp ((offsetsOrdered_iff events).mp h) j hj

theorem anyDataBit7_eq_false_iff (m : CCMap) (events : List TimedEvent) :
    anyDataBit7 m events = false ↔ NoBadData m events := by
  simp only [anyDataBit7, List.any_eq_false, Bool.not_eq_true, NoBadData]

theorem renderBlock_of_disorder {events : List TimedEvent} (h : ¬ OffsetsRise events) (n numOut : ℕ)
    (prior : Buffer) (s : State) : renderBlock n numOut events prior s = s.refuse .offsetOrder := by
  rw [← offsetsOrdered_iff_rise, Bool.not_eq_true] at h
  rw [renderBlock, if_pos h]

theorem renderBlock_of_badData {events : List TimedEvent} {s : State} (hrise : OffsetsRise events)
    (hbad : ¬ NoBadData s.cfg.ccmap events) (n numOut : ℕ) (prior : Buffer) :
    renderBlock n numOut events prior s = s.refuse .dataBit7 := by
  rw [← anyDataBit7_eq_false_iff, Bool.not_eq_false] at hbad
  simp [renderBlock, offsetsOrdered_of_rise hrise, hbad]

/-! ## Refused only by an evaluation (R149, R273) -/

/-- A sequence is refused in its first part, or behind it. -/
theorem Effect.andThen_eq_raised {α : Type} {x : Effect α} {f : α → Effect α} {why : Reason} {b : α}
    (h : x.andThen f = .raised why b) : x = .raised why b ∨ ∃ a, x = .done a ∧ f a = .raised why b := by
  cases x with
  | done a => exact .inr ⟨a, rfl, h⟩
  | raised why' a => exact .inl h

section
variable {tBlk : ℚ} {blockLen numOut : ℕ} {why : Reason}

theorem renderSamples_raised {count : ℕ} {u : Rendering} :
    ∀ {a : ℕ} {r : Rendering}, renderSamples tBlk numOut count a r = .raised why u → why = .nonFinite := by
  induction count with
  | zero => exact nofun
  | succ count ih =>
    intro a r h
    rcases Effect.andThen_eq_raised h with hfirst | ⟨_, -, hrest⟩
    · obtain ⟨-, -, hstride⟩ := renderSample_raised hfirst
      exact strideRecompute_raised hstride
    · exact ih hrest

theorem renderRange_raised {a b : ℕ} {r u : Rendering} (h : renderRange tBlk numOut a b r = .raised why u) :
    why = .nonFinite := by
  rw [renderRange_eq] at h
  split at h
  · cases h
  · exact renderSamples_raised h

theorem advanceTo_raised {off : ℕ} {r u : Rendering} (h : advanceTo tBlk blockLen numOut off r = .raised why u) :
    why = .nonFinite := by
  unfold advanceTo at h
  split at h
  · cases h
  · rcases Effect.andThen_eq_raised h with hrange | ⟨_, -, hcursor⟩
    · exact renderRange_raised hrange
    · cases hcursor

theorem eventLoop_raised {events : List TimedEvent} {u : Rendering} :
    ∀ {r : Rendering}, eventLoop tBlk blockLen numOut events r = .raised why u → why = .nonFinite := by
  induction events with
  | nil => exact nofun
  | cons ev rest ih =>
    intro r h
    rcases Effect.andThen_eq_raised h with hadvance | ⟨_, -, hrest⟩
    · exact advanceTo_raised hadvance
    · exact ih hrest

theorem renderEvents_raised {events : List TimedEvent} {r u : Rendering}
    (h : renderEvents tBlk blockLen numOut events r = .raised why u) : why = .nonFinite := by
  rcases Effect.andThen_eq_raised h with hloop | ⟨_, -, htrailing⟩
  · exact eventLoop_raised hloop
  · rcases Effect.andThen_eq_raised htrailing with hrange | ⟨_, -, hcursor⟩
    · exact renderRange_raised hrange
    · cases hcursor

end

/-! ## What a RENDER keeps, to its end or refused partway (R51) -/

section
variable (tBlk : ℚ) (blockLen numOut : ℕ)

theorem advanceTo_renderFrame (off : ℕ) (r : Rendering) :
    RenderFrame r.st (advanceTo tBlk blockLen numOut off r).carried.st := by
  unfold advanceTo
  split
  · exact .refl r.st
  · exact Effect.andThen_carried (fun u : Rendering => RenderFrame r.st u.st)
      (renderRange_frame ..).renderFrame (fun _ h => h)

theorem eventLoop_renderFrame {s : State} {events : List TimedEvent} (hgood : NoBadData s.cfg.ccmap events) :
    ∀ r : Rendering, RenderFrame s r.st →
      RenderFrame s (eventLoop tBlk blockLen numOut events r).carried.st := by
  induction events with
  | nil => exact fun _ h => h
  | cons ev rest ih =>
    intro r h
    obtain ⟨hev, hrest⟩ := List.forall_mem_cons.mp hgood
    refine Effect.andThen_carried (fun u : Rendering => RenderFrame s u.st)
      (h.trans (advanceTo_renderFrame ..)) (fun u hu => ih hrest _ ?_)
    rw [← hu.cfg] at hev
    exact hu.trans (applyWord_renderFrame hev)

theorem renderEvents_renderFrame {events : List TimedEvent} {r : Rendering}
    (hgood : NoBadData r.st.cfg.ccmap events) :
    RenderFrame r.st (renderEvents tBlk blockLen numOut events r).carried.st := by
  refine Effect.andThen_carried (fun u : Rendering => RenderFrame r.st u.st)
    (eventLoop_renderFrame tBlk blockLen numOut hgood r (.refl r.st)) (fun u hu => ?_)
  exact Effect.andThen_carried (fun v : Rendering => RenderFrame r.st v.st)
    (hu.trans (renderRange_frame ..).renderFrame) (fun _ h => h)

end

/-- Settles O41: a list that passes the check is refused only by an evaluation, and no event sets the mark. -/
theorem renderChecksItsList : Obligations.RenderChecksItsList := by
  unfold Obligations.RenderChecksItsList
  intro n numOut events prior s
  simp only [exec_render]
  refine ⟨fun hdisorder => ?_, fun hrise hbad => ?_, fun hrise hgood => ⟨_, rfl, ?_⟩⟩
  · rw [renderBlock_of_disorder hdisorder]
    rfl
  · rw [renderBlock_of_badData hrise hbad]
    rfl
  · rw [renderBlock_accepted hrise hgood]
    have hframe := renderEvents_renderFrame s.e.elapsed n numOut (r := { st := s, cursor := 0, out := prior }) hgood
    cases hevents : renderEvents s.e.elapsed n numOut events { st := s, cursor := 0, out := prior } with
    | done r =>
      left
      rw [hevents] at hframe
      rw [finishRender, advanceElapsed_frame]
      exact hframe.refused
    | raised why r =>
      right
      rw [renderEvents_raised hevents]
      rfl

/-! ## A RENDER that renders nothing (R205, R215 to R217) -/

theorem applyAll_emits (events : List TimedEvent) (s : State) : Emits s (applyAll events s) := by
  induction events generalizing s with
  | nil => exact .refl s
  | cons ev rest ih => exact (applyWord_emits ev.1 s).trans (ih _)

theorem applyAll_replies (events : List TimedEvent) (s : State) : (applyAll events s).replies = s.replies := by
  induction events generalizing s with
  | nil => rfl
  | cons ev rest ih => exact (ih _).trans (applyWord_replies ev.1 s)

/-- With no sample in a block, or in an inactive one, every range is empty or skipped. -/
theorem renderRange_idle {blockLen b : ℕ} {r : Rendering} (h : blockLen = 0 ∨ r.st.e.active = false)
    (hb : b ≤ blockLen) (tBlk : ℚ) (numOut a : ℕ) : renderRange tBlk numOut a b r = .done r := by
  rcases h with hzero | hinactive
  · exact renderRange_empty (by omega) ..
  · exact renderRange_skipped (State.skips_of_quiet (.inl hinactive)) ..

/-- Between idle ranges only the events are left of the event loop. -/
theorem eventLoop_idle (tBlk : ℚ) {blockLen : ℕ} (numOut : ℕ) (events : List TimedEvent) :
    ∀ {r : Rendering}, (blockLen = 0 ∨ r.st.e.active = false) → r.cursor ≤ blockLen →
      ∃ cursor, eventLoop tBlk blockLen numOut events r =
        .done { st := applyAll events r.st, cursor := cursor, out := r.out } := by
  induction events with
  | nil => exact fun {r} _ _ => ⟨r.cursor, rfl⟩
  | cons ev rest ih =>
    intro r hidle hcursor
    have hnext : blockLen = 0 ∨ (applyWord ev.1 r.st).e.active = false :=
      hidle.imp_right ((applyWord_emits ev.1 r.st).active.trans ·)
    obtain ⟨cursor, hrest⟩ := ih (r := { st := applyWord ev.1 r.st, cursor := min ev.2 blockLen, out := r.out })
      hnext (min_le_right _ _)
    refine ⟨cursor, ?_⟩
    rw [eventLoop, advanceTo_eq tBlk numOut ev.2 hcursor, renderRange_idle hidle (min_le_right _ _)]
    exact hrest

theorem renderEvents_idle (tBlk : ℚ) {blockLen : ℕ} (numOut : ℕ) (events : List TimedEvent) (out : Buffer)
    {s : State} (hidle : blockLen = 0 ∨ s.e.active = false) :
    renderEvents tBlk blockLen numOut events { st := s, cursor := 0, out := out } =
      .done { st := applyAll events s, cursor := blockLen, out := out } := by
  obtain ⟨cursor, hloop⟩ := eventLoop_idle tBlk numOut events (r := { st := s, cursor := 0, out := out }) hidle
    (Nat.zero_le _)
  have hend : blockLen = 0 ∨ (applyAll events s).e.active = false :=
    hidle.imp_right ((applyAll_emits events s).active.trans ·)
  rw [renderEvents, hloop, Effect.andThen_done, trailingRange, renderRange_idle hend le_rfl]
  rfl

/-- No time passes in a block of no samples, nor while inactive (R212, R216, R217). -/
theorem advanceElapsed_idle {blockLen : ℕ} {s : State} (h : blockLen = 0 ∨ s.e.active = false) :
    advanceElapsed blockLen s = s := by
  rcases h with rfl | hinactive
  · rw [advanceElapsed_frame, advanceElapsed_e]
    simp
  · exact if_neg (Bool.eq_false_iff.mp hinactive)

/-- A RENDER that renders nothing is its events, and hands back the buffer as it was. -/
theorem exec_render_idle {n : ℕ} {events : List TimedEvent} {s : State} (hrise : OffsetsRise events)
    (hgood : NoBadData s.cfg.ccmap events) (hidle : n = 0 ∨ s.e.active = false) (numOut : ℕ) (prior : Buffer) :
    exec (.render n numOut events prior) s =
      .next { applyAll events s with replies := s.replies ++ [.buffer prior] } := by
  have hend : n = 0 ∨ (applyAll events s).e.active = false :=
    hidle.imp_right ((applyAll_emits events s).active.trans ·)
  rw [exec_render, renderBlock_accepted hrise hgood, renderEvents_idle _ _ _ _ hidle, finishRender,
    advanceElapsed_idle hend, State.pushReply, applyAll_replies]

/-- Settles O44. -/
theorem renderWithoutSamplesAppliesEvents : Obligations.RenderWithoutSamplesAppliesEvents := by
  unfold Obligations.RenderWithoutSamplesAppliesEvents
  intro n numOut events prior s hrise hgood hidle
  exact ⟨exec_render_idle hrise hgood hidle numOut prior, (applyAll_emits events s).silent⟩

/-- Settles O43: the whole block is one range, and it is skipped. -/
theorem silentRenderTouchesNothing : Obligations.SilentRenderTouchesNothing := by
  unfold Obligations.SilentRenderTouchesNothing
  intro n numOut prior s hsilent
  have hrise : OffsetsRise [] := (offsetsOrdered_iff_rise []).mp rfl
  have hevents : renderEvents s.e.elapsed n numOut [] { st := s, cursor := 0, out := prior } =
      .done { st := s, cursor := n, out := prior } := by
    rw [renderEvents, eventLoop, Effect.andThen_done, trailingRange,
      renderRange_skipped (State.skips_of_quiet (.inr hsilent))]
    rfl
  rw [exec_render, renderBlock_accepted hrise nofun, hevents, finishRender, advanceElapsed_frame, advanceElapsed_e]
  rfl

/-! ## The RENDER that carries one event word (R203, R216) -/

theorem offsetsRise_singleton (ev : TimedEvent) : OffsetsRise [ev] := (offsetsOrdered_iff_rise [ev]).mp rfl

theorem noBadData_singleton {m : CCMap} {ev : TimedEvent} :
    NoBadData m [ev] ↔ (decodeEvent m ev.1).isDataBit7 = false := List.forall_mem_singleton

/-- A step on a fetched event word is the RENDER of no samples that carries it (log 4). -/
theorem step_withFetchWord_event {s : State} (hwf : s.cfg.ccmap.wellFormed = true) (hmark : s.refused = none)
    (w : ℕ) : step (s.withFetchWord 24 w) = exec (.render 0 0 [(BitVec.ofNat 24 w, 0)] []) s :=
  step_eq_exec (s := s.withFetchWord 24 w) hwf hmark rfl rfl

/-- Settles O9: the RENDER passes its check exactly if the word is not refused, and is then its one event. -/
theorem stepRunsDecodedEvent : Obligations.StepRunsDecodedEvent := by
  unfold Obligations.StepRunsDecodedEvent
  rintro s w i hwf hmark rfl
  have hrise := offsetsRise_singleton (BitVec.ofNat 24 w, 0)
  rw [step_withFetchWord_event hwf hmark]
  refine ⟨fun hgood => ⟨_, exec_decodeEvent _ s, ?_⟩, fun hbad => ⟨?_, ?_⟩⟩
  · rw [exec_render_idle hrise (noBadData_singleton.mpr hgood) (.inl rfl), applyWord_replies]
    rfl
  · rw [exec_eq_applyEvent (decodeEvent_isEvent ..), applyEvent_of_dataBit7 hbad]
    rfl
  · have hlist : ¬ NoBadData s.cfg.ccmap [(BitVec.ofNat 24 w, 0)] := by simp [noBadData_singleton, hbad]
    rw [exec_render, renderBlock_of_badData hrise hlist]
    rfl

end Sys2Proof.Machine
end

section
/-! SUPPORT. The mode and the elapsed time (spec/42_renderer.md R212, spec/60_exceptions.md R278,
spec/70_reset_and_hazards.md R302): which commands change them. -/

namespace Sys2Proof.Machine

open Sys2Proof

/-- t is in the mode of s, at the same elapsed time. -/
structure SameTime (s t : State) : Prop where
  active : t.e.active = s.e.active
  elapsed : t.e.elapsed = s.e.elapsed

theorem SameTime.of_e {s t : State} (h : t.e = s.e) : SameTime s t := ⟨by rw [h], by rw [h]⟩

theorem finish_e (x : Effect State) : x.finish.e = x.carried.e := by cases x <;> rfl

/-! ## Commands that keep both -/

/-- Events are applied at the elapsed time, which they read only (R51, R160). -/
theorem applyEvent_sameTime (i : Instr) (s : State) : SameTime s (stateAfter (applyEvent i s) s) := by
  cases hbad : i.isDataBit7 with
  | true =>
    rw [applyEvent_of_dataBit7 hbad]
    exact .of_e rfl
  | false =>
    obtain ⟨-, -, hactive, -, helapsed, -⟩ := State.untouched_iff.mp (applyEvent_untouched hbad s)
    exact ⟨hactive, helapsed⟩

theorem fieldWrite_e (f : Field) (value : Word32) (s : State) : (f.write value s).e = s.e := by
  rw [Field.write_frame]

theorem writeParam_e (f : Field) (value : Word32) (s : State) : (writeParam f value s).carried.e = s.e := by
  have hwrite := fieldWrite_e f value s
  cases f with
  | mixer | volume | envPeriod | envShape | noisePeriod => exact (emit_e _ _).trans hwrite
  | numPoints | time | ratio => exact hwrite
  | clockRate =>
    simp only [writeParam]
    split
    · rfl
    · exact hwrite
  | pan c =>
    simp only [writeParam]
    split
    · split
      · exact (emit_e _ _).trans hwrite
      · exact hwrite
    · exact hwrite

theorem paramBlock_e (id : BitVec 8) (value : Word32) (s : State) : (paramBlock id value s).carried.e = s.e := by
  unfold paramBlock
  split
  · rfl
  · exact writeParam_e ..

theorem saveState_e (layout : ℕ) (s : State) : (saveState layout s).carried.e = s.e := by
  unfold saveState
  split <;> rfl

theorem loadFields_e (len : ℕ) (blob : List Byte) (s : State) : (loadFields len blob s).e = s.e := by
  rw [loadFields_frame]

theorem defaultForm_e (c : Chan) (s : State) : (defaultForm c s).e = s.e := rfl

theorem loadState_e (blob : List Byte) (s : State) : (loadState blob s).carried.e = s.e := by
  unfold loadState
  split_ifs
  · rfl
  · rfl
  · rw [Effect.carried, State.setV_e, defaultForm_e, defaultForm_e, defaultForm_e, loadFields_e]
  · rw [Effect.carried, State.setV_e, loadFields_e]

/-! ## Commands that change them -/

theorem restoreChannel_e (c : Chan) (s : State) : (restoreChannel c s).carried.e = s.e := by
  simp only [restoreChannel]
  split <;> simp [Effect.carried]

/-- The restoration only emits (R232). -/
theorem engineRestore_e (s : State) : (engineRestore s).carried.e = s.e := by
  refine Effect.andThen_carried (fun t : State => t.e = s.e) ?_ (fun t h => ?_)
  · exact Effect.forEach_carried (fun t : State => t.e = s.e) (fun c t h => (restoreChannel_e c t).trans h) _ _
      (emit_e _ s)
  · simpa [Effect.carried, restoreGlobals] using h

/-- A CONFIGURE is refused before it switches the mode, or ends active with no time elapsed, whether its
restoration completes or not (R231, R273). -/
theorem configureBlock_time (sampleRate : ℕ) (s : State) :
    (configureBlock sampleRate s).carried.e = s.e ∨
      s.e.active = false ∧ (configureBlock sampleRate s).carried.e.active = true ∧
        (configureBlock sampleRate s).carried.e.elapsed = 0 := by
  obtain ⟨hdefaults, -⟩ := defaultIfUninitialized_frame s
  simp only [configureBlock]
  split_ifs with hactive
  · exact .inl rfl
  · exact .inl rfl
  · exact .inl hdefaults
  · right
    rw [engineRestore_e]
    exact ⟨Bool.not_eq_true _ ▸ hactive, rfl, rfl⟩

theorem deconfigureBlock_time (s : State) : deconfigureBlock s = s ∨
    s.e.active = true ∧ (deconfigureBlock s).e.active = false ∧ (deconfigureBlock s).e.elapsed = 0 := by
  unfold deconfigureBlock
  split_ifs with hactive
  · exact .inr ⟨hactive, rfl, rfl⟩
  · exact .inl rfl

/-- The end of a RENDER lets its time pass if it completes, and the block is active (R212, R273). -/
theorem finishRender_time (n : ℕ) (x : Effect Rendering) :
    (finishRender n x).e.active = x.carried.st.e.active ∧
      ((finishRender n x).e.elapsed = x.carried.st.e.elapsed ∨ x.carried.st.e.active = true ∧
        (finishRender n x).e.elapsed = x.carried.st.e.elapsed + (n : ℚ) / (x.carried.st.e.sampleRate : ℚ)) := by
  cases x with
  | raised why r => exact ⟨rfl, .inl rfl⟩
  | done r =>
    simp only [finishRender, State.pushReply_e, advanceElapsed_e, Effect.carried, true_and]
    split_ifs with hactive
    · exact .inr ⟨hactive, rfl⟩
    · exact .inl rfl

theorem renderBlock_time (n numOut : ℕ) (events : List TimedEvent) (prior : Buffer) (s : State) :
    (renderBlock n numOut events prior s).e.active = s.e.active ∧
      ((renderBlock n numOut events prior s).e.elapsed = s.e.elapsed ∨ s.e.active = true ∧
        (renderBlock n numOut events prior s).e.elapsed = s.e.elapsed + (n : ℚ) / (s.e.sampleRate : ℚ)) := by
  by_cases hrise : OffsetsRise events
  case neg =>
    rw [renderBlock_of_disorder hrise]
    exact ⟨rfl, .inl rfl⟩
  by_cases hgood : NoBadData s.cfg.ccmap events
  case neg =>
    rw [renderBlock_of_badData hrise hgood]
    exact ⟨rfl, .inl rfl⟩
  have hframe := renderEvents_renderFrame s.e.elapsed n numOut (r := { st := s, cursor := 0, out := prior }) hgood
  have htime := finishRender_time n
    (renderEvents s.e.elapsed n numOut events { st := s, cursor := 0, out := prior })
  rw [hframe.e] at htime
  rw [renderBlock_accepted hrise hgood]
  exact htime

/-! ## Every command -/

/-- The transitions that R278 and R212 allow an instruction. -/
def TimeTransition (i : Instr) (s t : State) : Prop :=
  (t.e.active = s.e.active ∨ (∃ sr, i = .configure sr ∧ s.e.active = false ∧ t.e.active = true) ∨
    (i = .deconfigure ∧ s.e.active = true ∧ t.e.active = false)) ∧
  (t.e.elapsed = s.e.elapsed ∨
    ((i = .deconfigure ∨ ∃ sr, i = .configure sr) ∧ t.e.elapsed = 0) ∨
    (∃ n numOut events prior, i = .render n numOut events prior ∧ s.e.active = true ∧
      t.e.elapsed = s.e.elapsed + (n : ℚ) / (s.e.sampleRate : ℚ)))

theorem SameTime.transition {s t : State} (h : SameTime s t) (i : Instr) : TimeTransition i s t :=
  ⟨.inl h.active, .inl h.elapsed⟩

theorem finish_transition {x : Effect State} {s : State} (h : x.carried.e = s.e) (i : Instr) :
    TimeTransition i s x.finish :=
  (SameTime.of_e ((finish_e x).trans h)).transition i

theorem exec_transition {i : Instr} {s t : State} (hexec : exec i s = .next t) : TimeTransition i s t := by
  cases hev : i.isEvent with
  | true =>
    have hsame := applyEvent_sameTime i s
    rw [← exec_eq_applyEvent hev, hexec] at hsame
    exact hsame.transition i
  | false =>
    cases i with
    | configure sr =>
      cases hexec
      rcases configureBlock_time sr s with hsame | ⟨hinactive, hactive, helapsed⟩
      · exact finish_transition hsame _
      · rw [← finish_e] at hactive helapsed
        exact ⟨.inr (.inl ⟨sr, rfl, hinactive, hactive⟩), .inr (.inl ⟨.inr ⟨sr, rfl⟩, helapsed⟩)⟩
    | deconfigure =>
      cases hexec
      rcases deconfigureBlock_time s with hsame | ⟨hactive, hinactive, helapsed⟩
      · exact (SameTime.of_e (congrArg State.e hsame)).transition _
      · exact ⟨.inr (.inr ⟨rfl, hactive, hinactive⟩), .inr (.inl ⟨.inl rfl, helapsed⟩)⟩
    | render n numOut events prior =>
      cases hexec
      obtain ⟨hmode, htime⟩ := renderBlock_time n numOut events prior s
      exact ⟨.inl hmode, htime.imp_right fun ⟨hactive, helapsed⟩ =>
        .inr ⟨n, numOut, events, prior, rfl, hactive, helapsed⟩⟩
    | paramWrite id value => cases hexec; exact finish_transition (paramBlock_e id value s) _
    | stateSave layout => cases hexec; exact finish_transition (saveState_e layout s) _
    | stateLoad blob => cases hexec; exact finish_transition (loadState_e blob s) _
    | badOp op => cases hexec; exact (SameTime.of_e rfl).transition _
    | _ => cases hev

/-- Settles O60. -/
theorem modeAndTimeTransitions : Obligations.ModeAndTimeTransitions := by
  unfold Obligations.ModeAndTimeTransitions
  exact fun _ _ _ hexec => exec_transition hexec

end Sys2Proof.Machine
end

section
/-! SUPPORT. CONFIGURE and DECONFIGURE (spec/43_host.md R231 to R233): which cause refuses first, and what the
restore sequence emits, to its end or to the first pan that is not finite. -/

namespace Sys2Proof.Machine

open Sys2Proof

/-! ## The restore sequence (R232) -/

/-- A finite pan is applied clamped to 0..1 (R161). -/
theorem apPan_of_finite {pan : F32} (h : F32.isFinite pan = true) :
    apPan pan = some (max 0 (min 1 (F32.finiteVal pan))) := by
  rw [apPan, F32.val, if_pos h, Option.map_some, clampRat]
  congr 1
  split_ifs with hlow hhigh
  · rw [min_eq_right (by linarith), max_eq_left hlow.le]
  · rw [min_eq_left hhigh.le, max_eq_right zero_le_one]
  · rw [min_eq_right (not_lt.mp hhigh), max_eq_right (not_lt.mp hlow)]

theorem apPan_of_not_finite {pan : F32} (h : F32.isFinite pan = false) : apPan pan = none := by
  rw [apPan, F32.val, if_neg (by simp [h]), Option.map_none]

/-- A channel is restored behind what is already emitted. -/
theorem restoreChannel_of_finite {c : Chan} {s : State} (h : F32.isFinite (s.persisted.ch.get c).pan = true)
    (cmds : List EngineCmd) : restoreChannel c (s.withEmitted cmds) =
      .done (s.withEmitted (cmds ++ restoreCmds s.persisted c)) := by
  have hpan : apPan ((s.withEmitted cmds).ch.get c).pan = _ := apPan_of_finite h
  simp only [restoreChannel, hpan, emit_eq_withEmitted, State.withEmitted_withEmitted, apVol, clampInt_toNat,
    List.append_assoc]
  rfl

/-- The first two commands of a channel are emitted before its pan is read (R273). -/
theorem restoreChannel_of_not_finite {c : Chan} {s : State}
    (h : F32.isFinite (s.persisted.ch.get c).pan = false) (cmds : List EngineCmd) :
    restoreChannel c (s.withEmitted cmds) =
      .raised .nonFinite (s.withEmitted (cmds ++ (restoreCmds s.persisted c).take 2)) := by
  have hpan : apPan ((s.withEmitted cmds).ch.get c).pan = none := apPan_of_not_finite h
  simp only [restoreChannel, hpan, emit_eq_withEmitted, State.withEmitted_withEmitted, apVol, clampInt_toNat,
    List.append_assoc]
  rfl

/-- Channels with finite pans are restored one after the other. -/
theorem restoreChannels_done {cs : List Chan} {s : State}
    (hfinite : ∀ c ∈ cs, F32.isFinite (s.persisted.ch.get c).pan = true) (cmds : List EngineCmd) :
    Effect.forEach restoreChannel cs (s.withEmitted cmds) =
      .done (s.withEmitted (cmds ++ cs.flatMap (restoreCmds s.persisted))) := by
  induction cs generalizing cmds with
  | nil => rw [List.flatMap_nil, List.append_nil]; rfl
  | cons c rest ih =>
    obtain ⟨hc, hrest⟩ := List.forall_mem_cons.mp hfinite
    rw [Effect.forEach, restoreChannel_of_finite hc, Effect.andThen_done, ih hrest, List.flatMap_cons,
      List.append_assoc]

theorem Effect.forEach_append {α β : Type} (f : β → α → Effect α) (xs ys : List β) (a : α) :
    Effect.forEach f (xs ++ ys) a = (Effect.forEach f xs a).andThen (Effect.forEach f ys) := by
  induction xs generalizing a with
  | nil => rfl
  | cons x rest ih =>
    rw [List.cons_append, Effect.forEach, Effect.forEach, Effect.andThen_assoc]
    exact congrArg _ (funext ih)

/-- The first pan that is not finite ends the restoration. -/
theorem restoreChannels_raised {pre : List Chan} {c : Chan} {s : State}
    (hfinite : ∀ d ∈ pre, F32.isFinite (s.persisted.ch.get d).pan = true)
    (hc : F32.isFinite (s.persisted.ch.get c).pan = false) (post : List Chan) (cmds : List EngineCmd) :
    Effect.forEach restoreChannel (pre ++ c :: post) (s.withEmitted cmds) = .raised .nonFinite
      (s.withEmitted (cmds ++ pre.flatMap (restoreCmds s.persisted) ++ (restoreCmds s.persisted c).take 2)) := by
  rw [Effect.forEach_append, restoreChannels_done hfinite, Effect.andThen_done, Effect.forEach,
    restoreChannel_of_not_finite hc, Effect.andThen_raised]

/-- What `engineRestore()` emits before the channels. -/
def restoreHead (s : State) : EngineCmd :=
  .configure Config.engineArg0 s.g.clockRate.toInt s.e.sampleRate

/-- What `engineRestore()` emits after the channels. -/
def restoreTail (g : Global) : List EngineCmd :=
  [.setNoise (clampedWord 31 g.noisePeriod), .setEnvelope (clampedWord 65535 g.envPeriod)]

theorem restoreGlobals_eq (s : State) : restoreGlobals s = s.withEmitted (restoreTail s.g) := by
  simp only [restoreGlobals, emit_eq_withEmitted, State.withEmitted_withEmitted, apNoise, apPeriod, clampInt_toNat]
  rfl

theorem engineRestore_eq (s : State) : engineRestore s =
    (Effect.forEach restoreChannel [.ch0, .ch1, .ch2] (s.withEmitted [restoreHead s])).andThen
      (fun t => .done (restoreGlobals t)) := by
  rw [engineRestore, emit_eq_withEmitted]
  rfl

theorem engineRestore_done {s : State} (hfinite : ∀ c, F32.isFinite (s.persisted.ch.get c).pan = true) :
    engineRestore s = .done (s.withEmitted
      (restoreHead s :: [Chan.ch0, .ch1, .ch2].flatMap (restoreCmds s.persisted) ++ restoreTail s.g)) := by
  rw [engineRestore_eq, restoreChannels_done (fun c _ => hfinite c), Effect.andThen_done, restoreGlobals_eq,
    State.withEmitted_withEmitted]
  rfl

/-- The channels in front of a channel are restored before it. -/
theorem channels_split (c : Chan) :
    ∃ post, [Chan.ch0, .ch1, .ch2] =
      [Chan.ch0, .ch1, .ch2].filter (fun d => decide (d.num < c.num)) ++ c :: post := by
  cases c <;> exact ⟨_, rfl⟩

theorem engineRestore_raised {s : State} {c : Chan} (hc : F32.isFinite (s.persisted.ch.get c).pan = false)
    (hfinite : ∀ d : Chan, d.num < c.num → F32.isFinite (s.persisted.ch.get d).pan = true) :
    engineRestore s = .raised .nonFinite (s.withEmitted (restoreHead s ::
      ([Chan.ch0, .ch1, .ch2].filter (fun d => decide (d.num < c.num))).flatMap (restoreCmds s.persisted) ++
      (restoreCmds s.persisted c).take 2)) := by
  obtain ⟨post, hsplit⟩ := channels_split c
  have hpre : ∀ d ∈ [Chan.ch0, .ch1, .ch2].filter (fun d => decide (d.num < c.num)),
      F32.isFinite (s.persisted.ch.get d).pan = true := fun d hd =>
    hfinite d (of_decide_eq_true (List.mem_filter.mp hd).2)
  rw [engineRestore_eq, hsplit, restoreChannels_raised hpre hc, Effect.andThen_raised, ← hsplit]
  rfl

/-- Complete or refused, the restoration only emits (R232, R273). -/
theorem engineRestore_carried (s : State) : ∃ cmds, (engineRestore s).carried = s.withEmitted cmds := by
  rw [engineRestore_eq]
  refine Effect.andThen_carried (fun t => ∃ cmds, t = s.withEmitted cmds) ?_ ?_
  · refine Effect.forEach_carried (fun t => ∃ cmds, t = s.withEmitted cmds) ?_ _ _ ⟨_, rfl⟩
    rintro c _ ⟨cmds, rfl⟩
    cases hfinite : F32.isFinite (s.persisted.ch.get c).pan with
    | true => exact ⟨_, congrArg Effect.carried (restoreChannel_of_finite hfinite cmds)⟩
    | false => exact ⟨_, congrArg Effect.carried (restoreChannel_of_not_finite hfinite cmds)⟩
  · rintro _ ⟨cmds, rfl⟩
    exact ⟨_, (restoreGlobals_eq _).trans (s.withEmitted_withEmitted ..)⟩

/-! ## The causes that refuse a CONFIGURE, in their order (R231, R276) -/

theorem defaultIfUninitialized_eq (s : State) : defaultIfUninitialized s = { s with
    g := (configured s).g
    ch := (configured s).ch
    v := if s.v = .uninitialized then .defaulted else s.v } := by
  unfold defaultIfUninitialized configured
  split_ifs <;> rfl

/-- The state from which a CONFIGURE restores the engine (R231). -/
def restarted (sampleRate : ℕ) (s : State) : State :=
  (runtimeReset (defaultIfUninitialized s)).activate sampleRate

theorem restarted_eq (sampleRate : ℕ) (s : State) : restarted sampleRate s = { s with
    g := (configured s).g
    ch := (configured s).ch
    rt := perChOf Runtime.initial
    e := { sampleRate := sampleRate, active := true, elapsed := 0, pitchBend := perChOf Config.bendCentre }
    x := { h := 0, m := 0, l := 0 }
    v := if s.v = .uninitialized then .defaulted else s.v } := by
  rw [restarted, defaultIfUninitialized_eq]
  rfl

/-- Emissions of the restarted block reach the engine: it is active. -/
theorem restarted_withEmitted (sampleRate : ℕ) (s : State) (cmds : List EngineCmd) :
    (restarted sampleRate s).withEmitted cmds = { restarted sampleRate s with trace := s.trace ++ cmds } := by
  rw [State.withEmitted, State.emitted_active (by rw [restarted_eq]), restarted_eq]

section
variable {sampleRate : ℕ} {s : State}

theorem configureBlock_of_active (h : s.e.active = true) (sampleRate : ℕ) :
    configureBlock sampleRate s = .raised .configActive s := if_pos h

theorem configureBlock_of_badRate (h : s.e.active = false) : configureBlock 0 s = .raised .badRate s := by
  rw [configureBlock, if_neg (by simp [h]), if_pos rfl]

theorem configureBlock_of_rate (h : s.e.active = false) (hrate : 0 < sampleRate) :
    configureBlock sampleRate s = if (configured s).g.clockRate.toInt ≤ 0
      then .raised .badClock (defaultIfUninitialized s) else engineRestore (restarted sampleRate s) := by
  have hclock : sext32 (defaultIfUninitialized s).g.clockRate = (configured s).g.clockRate.toInt := by
    rw [defaultIfUninitialized_eq]
    rfl
  rw [configureBlock, if_neg (by simp [h]), if_neg hrate.ne', ← hclock]
  rfl

theorem configureBlock_of_badClock (h : s.e.active = false) (hrate : 0 < sampleRate)
    (hclock : (configured s).g.clockRate.toInt ≤ 0) :
    configureBlock sampleRate s = .raised .badClock (defaultIfUninitialized s) :=
  (configureBlock_of_rate h hrate).trans (if_pos hclock)

theorem configureBlock_of_clock (h : s.e.active = false) (hrate : 0 < sampleRate)
    (hclock : 0 < (configured s).g.clockRate.toInt) :
    configureBlock sampleRate s = engineRestore (restarted sampleRate s) :=
  (configureBlock_of_rate h hrate).trans (if_neg hclock.not_ge)

end

theorem restarted_persisted (sampleRate : ℕ) (s : State) : (restarted sampleRate s).persisted = configured s := by
  rw [restarted_eq]
  rfl

/-- Settles O51: no cause applies, and every channel is restored. -/
theorem configureCompletes : Obligations.ConfigureCompletes := by
  unfold Obligations.ConfigureCompletes
  intro sr s hinactive hrate hclock hfinite
  rw [← restarted_persisted sr s] at hfinite
  refine congrArg Host.Outcome.next ?_
  rw [configureBlock_of_clock hinactive hrate hclock, engineRestore_done hfinite, Effect.finish_done,
    restarted_withEmitted, restarted_persisted, restarted_eq]
  simp only [List.append_assoc]
  rfl

/-- Settles O52: each cause is reached when those before it do not apply. -/
theorem configureRefusals : Obligations.ConfigureRefusals := by
  unfold Obligations.ConfigureRefusals
  intro sr s
  refine ⟨fun hactive => congrArg Host.Outcome.next ?_, fun hinactive hrate => congrArg Host.Outcome.next ?_,
    fun hinactive hrate hclock => congrArg Host.Outcome.next ?_,
    fun c hinactive hrate hclock hc hfinite => congrArg Host.Outcome.next ?_⟩
  · rw [configureBlock_of_active hactive]
    rfl
  · rw [hrate, configureBlock_of_badRate hinactive]
    rfl
  · rw [configureBlock_of_badClock hinactive hrate hclock, defaultIfUninitialized_eq]
    rfl
  · rw [← restarted_persisted sr s] at hc hfinite
    rw [configureBlock_of_clock hinactive hrate hclock, engineRestore_raised hc hfinite, Effect.finish_raised,
      restarted_withEmitted, restarted_persisted, restarted_eq]
    simp only [List.append_assoc]
    rfl

/-- Settles O53: the two branches of R233. -/
theorem deconfigureStops : Obligations.DeconfigureStops := by
  unfold Obligations.DeconfigureStops
  refine fun s => ⟨fun hinactive => congrArg Host.Outcome.next ?_, fun hactive => congrArg Host.Outcome.next ?_⟩
  · exact if_neg (ne_true_of_eq_false hinactive)
  · exact if_pos hactive

end Sys2Proof.Machine
end

section
/-! SUPPORT. PARAM_WRITE (spec/43_host.md R234 to R245): the field a parameter id addresses, and what the write of
each field stores and emits. -/

namespace Sys2Proof.Machine

open Sys2Proof

/-! ## The parameter ids (spec/20_memory.md R81) -/

/-- No two fields have the same id, and every id is below 52. -/
theorem fieldOfParam_paramId (f : Field) : fieldOfParam f.paramId = some f ∧ f.paramId < 52 := by
  have hall : ∀ g ∈ allFields, fieldOfParam g.paramId = some g ∧ g.paramId < 52 := by decide
  exact hall f (mem_allFields f)

theorem fieldOfParam_of_le {id : ℕ} (h : 52 ≤ id) : fieldOfParam id = none := by
  refine List.find?_eq_none.mpr fun f _ => ?_
  have hlt := (fieldOfParam_paramId f).2
  rw [beq_iff_eq]
  omega

/-- The byte id of a field addresses it. -/
theorem paramBlock_field (f : Field) (value : Word32) (s : State) :
    paramBlock (BitVec.ofNat 8 f.paramId) value s = writeParam f value s := by
  obtain ⟨hfield, hlt⟩ := fieldOfParam_paramId f
  have hid : (BitVec.ofNat 8 f.paramId).toNat = f.paramId := by
    rw [BitVec.toNat_ofNat]
    omega
  rw [paramBlock, hid, hfield]

theorem exec_paramWrite_of_field {f : Field} {id : BitVec 8} (hid : id = BitVec.ofNat 8 f.paramId)
    (value : Word32) (s : State) : exec (.paramWrite id value) s = .next (writeParam f value s).finish := by
  rw [hid, ← paramBlock_field]
  rfl

/-! ## The write of one field (R235 to R245) -/

/-- What the write of a field emits, if it is not refused: the command of the matching event, clamped. -/
def Field.paramCmds (f : Field) (value : Word32) : List EngineCmd :=
  match f with
  | .mixer c => [mixerCmd c value]
  | .volume c => [.setVolume c (clampedWord 14 value)]
  | .pan c => [panCmd c value]
  | .envPeriod => [.setEnvelope (clampedWord 65535 value)]
  | .envShape => [.setEnvelopeShape (clampedWord 15 value)]
  | .noisePeriod => [.setNoise (clampedWord 31 value)]
  | .clockRate | .numPoints _ | .time _ _ | .ratio _ _ => []

theorem State.withEmitted_nil (s : State) : s.withEmitted [] = s := by
  rw [State.withEmitted, State.emitted, List.append_nil, ite_self]

theorem State.withEmitted_inactive {s : State} (h : s.e.active = false) (cmds : List EngineCmd) :
    s.withEmitted cmds = s := by rw [State.withEmitted, State.emitted_inactive h]

/-- The writes that nothing refuses: a pan is refused if it is not finite, a clock rate while active. -/
def Field.Writable (f : Field) (value : Word32) (s : State) : Prop :=
  match f with
  | .pan _ => F32.isFinite value = true
  | .clockRate => s.e.active = false
  | .mixer _ | .volume _ | .envPeriod | .envShape | .noisePeriod | .numPoints _ | .time _ _ | .ratio _ _ => True

theorem writeParam_of_writable {f : Field} {value : Word32} {s : State} (h : f.Writable value s) :
    writeParam f value s = .done ((f.write value s).withEmitted (f.paramCmds value)) := by
  cases f with
  | mixer c => exact congrArg _ (emit_eq_withEmitted ..)
  | volume | envPeriod | envShape | noisePeriod =>
    simp only [writeParam, emit_eq_withEmitted, apVol, apPeriod, apShape, apNoise, clampInt_toNat]
    rfl
  | numPoints | time | ratio => exact congrArg _ (State.withEmitted_nil _).symm
  | clockRate =>
    exact (if_neg (ne_true_of_eq_false h)).trans (congrArg _ (State.withEmitted_nil _).symm)
  | pan c =>
    cases hactive : s.e.active with
    | true =>
      simp only [writeParam, if_pos hactive, apPan_of_finite h, emit_eq_withEmitted]
      rfl
    | false =>
      have hstored : ((Field.pan c).write value s).e.active = false := hactive
      rw [State.withEmitted_inactive hstored]
      exact if_neg (ne_true_of_eq_false hactive)

/-- A pan that is not finite is stored; it is looked at while active only (R238). -/
theorem writeParam_of_not_finite {value : Word32} (h : F32.isFinite value = false) (c : Chan) (s : State) :
    writeParam (.pan c) value s =
      if s.e.active then .raised .nonFinite (s.setPan c value) else .done (s.setPan c value) := by
  simp only [writeParam, apPan_of_not_finite h]
  rfl

theorem writeParam_clockRate_of_active {s : State} (h : s.e.active = true) (value : Word32) :
    writeParam .clockRate value s = .raised .configActive s := if_pos h

/-! ## The parameter writes -/

theorem exec_paramWrite_stored {f : Field} {id : BitVec 8} {value : Word32} {s : State}
    (hid : id = BitVec.ofNat 8 f.paramId) (h : f.Writable value s) : exec (.paramWrite id value) s =
      .next ((f.write value s).withEmitted (f.paramCmds value)) := by
  rw [exec_paramWrite_of_field hid, writeParam_of_writable h, Effect.finish_done]

/-- The writes of the fields that emit nothing. -/
theorem exec_paramWrite_silent {f : Field} {id : BitVec 8} {value : Word32} {s : State}
    (hid : id = BitVec.ofNat 8 f.paramId) (h : f.Writable value s) (hsilent : f.paramCmds value = []) :
    exec (.paramWrite id value) s = .next (f.write value s) := by
  rw [exec_paramWrite_stored hid h, hsilent, State.withEmitted_nil]

/-- Settles O54: each id addresses its field, whose write nothing refuses. -/
theorem parameterWritesStoreAndEmit : Obligations.ParameterWritesStoreAndEmit := by
  unfold Obligations.ParameterWritesStoreAndEmit
  intro s w c k
  have hmixer : BitVec.ofNat 8 c.num = BitVec.ofNat 8 (Field.mixer c).paramId := by
    rw [Field.paramId, Nat.zero_add]
  exact ⟨exec_paramWrite_stored (f := .mixer c) hmixer trivial,
    exec_paramWrite_stored (f := .volume c) rfl trivial,
    exec_paramWrite_stored (f := .envPeriod) rfl trivial,
    exec_paramWrite_stored (f := .envShape) rfl trivial,
    exec_paramWrite_stored (f := .noisePeriod) rfl trivial,
    exec_paramWrite_silent (f := .numPoints c) rfl trivial rfl,
    exec_paramWrite_silent (f := .time c k) rfl trivial rfl,
    exec_paramWrite_silent (f := .ratio c k) rfl trivial rfl⟩

/-- Settles O55: no field has an id of 52 or more; of the others, the pans and the clock rate can be refused. -/
theorem parameterWritesThatMayBeRefused : Obligations.ParameterWritesThatMayBeRefused := by
  unfold Obligations.ParameterWritesThatMayBeRefused
  intro s w id c
  refine ⟨fun hid => congrArg Host.Outcome.next ?_,
    fun hfinite => exec_paramWrite_stored (f := .pan c) rfl hfinite, fun hnot => ?_, fun hactive => ?_,
    fun hinactive => exec_paramWrite_silent (f := .clockRate) rfl hinactive rfl⟩
  · rw [paramBlock, fieldOfParam_of_le hid]
    rfl
  · refine (exec_paramWrite_of_field (f := .pan c) rfl w s).trans (congrArg Host.Outcome.next ?_)
    rw [writeParam_of_not_finite hnot]
    split_ifs <;> rfl
  · refine (exec_paramWrite_of_field (f := .clockRate) rfl w s).trans (congrArg Host.Outcome.next ?_)
    rw [writeParam_clockRate_of_active hactive]
    rfl

end Sys2Proof.Machine
end

section
/-! SUPPORT. What STATE_LOAD stores: each field of the layout that the blob's length selects (spec/43_host.md R247,
R248), and what loading a saved blob gives back (R250). -/

namespace Sys2Proof.Machine

open Sys2Proof

/-! ## Loading fields (R248) -/

/-- Each listed field holds its word of the blob, wherever it stands in the list, and every other field is as it
was. -/
theorem read_foldl_write (blob : List Byte) (f : Field) (fs : List Field) (s : State) :
    f.read (fs.foldl (fun t g => g.write (memRead32 blob g.offset) t) s) =
      if f ∈ fs then memRead32 blob f.offset else f.read s := by
  induction fs using List.reverseRecOn with
  | nil => rfl
  | append_singleton fs g ih =>
    rw [List.foldl_concat]
    by_cases hlast : f = g
    · subst hlast
      rw [Field.read_write_same, if_pos (by simp)]
    · rw [Field.read_write_ne hlast, ih]
      simp [hlast]

theorem read_loadFields (len : ℕ) (blob : List Byte) (s : State) (f : Field) :
    f.read (loadFields len blob s) = if f.offset + 4 ≤ len then memRead32 blob f.offset else f.read s := by
  simp only [← mem_fieldsWithin]
  exact read_foldl_write blob f (fieldsWithin len) s

/-- Byte j of the word read at an offset inside the blob is the blob's byte there (R75). -/
theorem getElem?_eq_memRead32_byte {blob : List Byte} {off j : ℕ} (hj : j < 4) (hin : off + 4 ≤ blob.length) :
    blob[off + j]? = some ((memRead32 blob off).extractLsb' (8 * j) 8) := by
  have hbyte := lo4_memRead32 blob off hj
  have hlt : off + j < blob.length := by omega
  rw [List.getD_eq_getElem _ _ hlt] at hbyte
  rw [List.getElem?_eq_getElem hlt, ← hbyte]
  rfl

/-- The legacy layout holds whole fields: a field that starts inside it ends inside it (R79). -/
theorem Field.fits_legacy_iff (f : Field) : f.offset + 4 ≤ 52 ↔ f.offset < 52 := by
  have := f.offset_spec
  omega

/-! ## The form fields at their defaults (R247) -/

/-- The form fields of the three channels at their defaults. -/
def defaultForms (s : State) : State := defaultForm .ch2 (defaultForm .ch1 (defaultForm .ch0 s))

theorem defaultForms_get (s : State) (c : Chan) : (defaultForms s).ch.get c = { s.ch.get c with
    numPoints := (s.cfg.defaults.ch.get c).numPoints
    pts := (s.cfg.defaults.ch.get c).pts } := by
  cases c <;> rfl

/-- No form field lies in the legacy layout (R78, R79). -/
theorem read_defaultForms {f : Field} (h : f.offset < 52) (s : State) : f.read (defaultForms s) = f.read s := by
  cases f with
  | mixer | volume | pan => simp only [Field.read, defaultForms_get]
  | envPeriod | envShape | noisePeriod | clockRate => rfl
  | numPoints | time | ratio =>
    simp only [Field.offset] at h
    omega

/-! ## The branches of STATE_LOAD (R247) -/

section
variable {blob : List Byte} {s : State}

theorem loadState_of_active (h : s.e.active = true) (blob : List Byte) :
    loadState blob s = .raised .configActive s := if_pos h

theorem loadState_of_short (h : s.e.active = false) (hlen : blob.length < 52) :
    loadState blob s = .done ((installDefaults s).setV .defaulted) := by
  rw [loadState, if_neg (ne_true_of_eq_false h)]
  exact if_pos hlen

theorem loadState_of_legacy (h : s.e.active = false) (hlow : 52 ≤ blob.length) (hhigh : blob.length < 208) :
    loadState blob s = .done ((defaultForms (loadFields 52 blob s)).setV .loaded) := by
  rw [loadState, if_neg (ne_true_of_eq_false h)]
  exact (if_neg hlow.not_gt).trans (if_pos hhigh)

theorem loadState_of_full (h : s.e.active = false) (hlen : 208 ≤ blob.length) :
    loadState blob s = .done ((loadFields 208 blob s).setV .loaded) := by
  rw [loadState, if_neg (ne_true_of_eq_false h)]
  exact (if_neg (show ¬ blob.length < 52 by omega)).trans (if_neg hlen.not_gt)

end

theorem exec_stateLoad_done {blob : List Byte} {s t : State} (h : loadState blob s = .done t) :
    exec (.stateLoad blob) s = .next t :=
  congrArg (fun x => Host.Outcome.next (Effect.finish x)) h

/-- A load of G and ch leaves the rest of the state alone but V. -/
theorem setV_frame {s u : State} (h : u = { s with g := u.g, ch := u.ch }) (v : Validity) :
    u.setV v = { s with g := (u.setV v).g, ch := (u.setV v).ch, v := v } := by
  rw [h]
  rfl

theorem defaultForms_frame {s u : State} (h : u = { s with g := u.g, ch := u.ch }) :
    defaultForms u = { s with g := (defaultForms u).g, ch := (defaultForms u).ch } := by
  rw [h]
  rfl

/-- V is no persisted field. -/
theorem Field.read_setV (f : Field) (s : State) (v : Validity) : f.read (s.setV v) = f.read s := by
  cases f <;> rfl

/-- A loaded field and its bytes: the form in which the statements speak of a load. -/
theorem field_loaded {f : Field} {blob : List Byte} {t : State} (h : f.read t = memRead32 blob f.offset)
    (hin : f.offset + 4 ≤ blob.length) {j : ℕ} (hj : j < 4) :
    blob[f.offset + j]? = some ((f.read t).extractLsb' (8 * j) 8) := by
  rw [h]
  exact getElem?_eq_memRead32_byte hj hin

/-- Settles O57: the branch is chosen by the length, and each of its fields is read back. -/
theorem stateLoadByLength : Obligations.StateLoadByLength := by
  unfold Obligations.StateLoadByLength
  intro s blob
  refine ⟨fun hactive => congrArg Host.Outcome.next ?_, fun hinactive hlen => congrArg Host.Outcome.next ?_,
    fun hinactive hlow hhigh => ?_, fun hinactive hlen => ?_⟩
  · rw [loadState_of_active hactive]
    rfl
  · rw [loadState_of_short hinactive hlen]
    rfl
  · have hread : ∀ f : Field, f.offset < 52 →
        f.read ((defaultForms (loadFields 52 blob s)).setV .loaded) = memRead32 blob f.offset := fun f hf => by
      rw [Field.read_setV, read_defaultForms hf, read_loadFields, if_pos (f.fits_legacy_iff.mpr hf)]
    refine ⟨(defaultForms (loadFields 52 blob s)).setV .loaded,
      exec_stateLoad_done (loadState_of_legacy hinactive hlow hhigh),
      setV_frame (defaultForms_frame (loadFields_frame 52 blob s)) _, hread,
      fun f j hf hj => field_loaded (hread f hf) ((f.fits_legacy_iff.mpr hf).trans hlow) hj, fun c => ?_⟩
    rw [State.setV_ch, defaultForms_get, loadFields_frame]
    exact ⟨rfl, rfl⟩
  · have hread : ∀ f : Field, f.read ((loadFields 208 blob s).setV .loaded) = memRead32 blob f.offset := fun f => by
      rw [Field.read_setV, read_loadFields, if_pos f.offset_spec.1]
    exact ⟨(loadFields 208 blob s).setV .loaded, exec_stateLoad_done (loadState_of_full hinactive hlen),
      setV_frame (loadFields_frame 208 blob s) _, hread,
      fun f j hj => field_loaded (hread f) (f.offset_spec.1.trans hlen) hj⟩

/-! ## Save, then load (R250) -/

/-- Loading what was saved from the same state stores every field of the layout as it was. -/
theorem loadFields_saveBlob (len : ℕ) (s : State) : loadFields len (saveBlob len s) s = s := by
  have hread : ∀ f : Field, f.read (loadFields len (saveBlob len s) s) = f.read s := fun f => by
    rw [read_loadFields]
    split_ifs with hin
    · exact memRead32_saveBlob s hin
    · rfl
  obtain ⟨hg, hch⟩ := persisted_ext hread
  rw [loadFields_frame, hg, hch]

/-- A reply is no persisted field. -/
theorem saveBlob_pushReply (len : ℕ) (s : State) (r : Reply) : saveBlob len (s.pushReply r) = saveBlob len s := by
  have hread : ∀ f : Field, f.read (s.pushReply r) = f.read s := fun f => by cases f <;> rfl
  simp only [saveBlob, hread]

/-- The state after a save of len bytes. -/
def saved (len : ℕ) (s : State) : State := s.pushReply (.blob (saveBlob len s))

theorem exec_stateSave_full (s : State) : exec (.stateSave 0) s = .next (saved 208 s) := rfl

theorem exec_stateSave_legacy (s : State) : exec (.stateSave 1) s = .next (saved 52 s) := rfl

/-- Loading the saved blob into the state after the save. -/
theorem loadFields_saved (len : ℕ) (s : State) : loadFields len (saveBlob len s) (saved len s) = saved len s := by
  have hload := loadFields_saveBlob len (saved len s)
  rwa [saved, saveBlob_pushReply, ← saved] at hload

/-- The blob of a save is the one reply that it appends. -/
theorem eq_saveBlob_of_replies {len : ℕ} {s : State} {b : List Byte}
    (h : (saved len s).replies = s.replies ++ [.blob b]) : b = saveBlob len s := by
  rw [saved, State.pushReply_replies] at h
  exact (Reply.blob.inj (List.singleton_inj.mp (List.append_cancel_left h))).symm

/-- Settles O58: the load stores what the saved fields hold already, and the legacy one sets the form fields. -/
theorem saveThenLoadRoundTrip : Obligations.SaveThenLoadRoundTrip := by
  unfold Obligations.SaveThenLoadRoundTrip
  intro s b hinactive
  refine ⟨fun t hsave hreply => ?_, fun t hsave hreply => ?_⟩
  · rw [exec_stateSave_full] at hsave
    injection hsave with ht
    subst ht
    rw [eq_saveBlob_of_replies hreply]
    have hload := loadState_of_full (s := saved 208 s) hinactive (length_saveBlob 208 s).ge
    rw [loadFields_saved] at hload
    exact ⟨_, exec_stateLoad_done hload, rfl, rfl⟩
  · rw [exec_stateSave_legacy] at hsave
    injection hsave with ht
    subst ht
    rw [eq_saveBlob_of_replies hreply]
    have hlen := length_saveBlob 52 s
    have hload := loadState_of_legacy (s := saved 52 s) hinactive hlen.ge (by omega)
    rw [loadFields_saved] at hload
    have hget : ∀ c, (defaultForms (saved 52 s)).ch.get c = { s.ch.get c with
        numPoints := (s.cfg.defaults.ch.get c).numPoints
        pts := (s.cfg.defaults.ch.get c).pts } := defaultForms_get (saved 52 s)
    refine ⟨_, exec_stateLoad_done hload, rfl, hget, fun hforms => PerCh.ext_get fun c => ?_⟩
    obtain ⟨hcount, hpts⟩ := hforms c
    exact (hget c).trans (by rw [← hcount, ← hpts])

end Sys2Proof.Machine
end

section
/-! SUPPORT. The transitions of V (spec/43_host.md R249), and the end of a run at a refused state (R230). -/

namespace Sys2Proof.Machine

open Sys2Proof

/-! ## No step from a refused state (R230, R273) -/

/-- A refused state halts the machine, unless its configuration has no steps at all (R7). -/
theorem step_of_refused {s : State} {why : Reason} (h : s.refused = some why) :
    step s = if s.cfg.ccmap.wellFormed = false then .refused .badCcmap else .fault (.halted why) := by
  rw [step, h]

/-- Settles O10: a stop is no next state. -/
theorem noStepFromRefusedState : Obligations.NoStepFromRefusedState := by
  unfold Obligations.NoStepFromRefusedState
  intro s t hmark hstep
  obtain ⟨why, hwhy⟩ := Option.ne_none_iff_exists'.mp hmark
  rw [step_of_refused hwhy] at hstep
  split_ifs at hstep

/-! ## Commands that keep V -/

theorem finish_v (x : Effect State) : x.finish.v = x.carried.v := by cases x <;> rfl

theorem applyEvent_v (i : Instr) (s : State) : (stateAfter (applyEvent i s) s).v = s.v := by
  cases hbad : i.isDataBit7 with
  | true =>
    rw [applyEvent_of_dataBit7 hbad]
    rfl
  | false =>
    obtain ⟨-, -, -, -, -, hv, -⟩ := State.untouched_iff.mp (applyEvent_untouched hbad s)
    exact hv

theorem finishRender_v (n : ℕ) (x : Effect Rendering) : (finishRender n x).v = x.carried.st.v := by
  cases x with
  | raised why r => rfl
  | done r =>
    rw [finishRender, State.pushReply_v, advanceElapsed]
    split <;> rfl

/-- Neither the events nor the samples of a RENDER write V (R51). -/
theorem renderBlock_v (n numOut : ℕ) (events : List TimedEvent) (prior : Buffer) (s : State) :
    (renderBlock n numOut events prior s).v = s.v := by
  by_cases hrise : OffsetsRise events
  case neg =>
    rw [renderBlock_of_disorder hrise]
    rfl
  by_cases hgood : NoBadData s.cfg.ccmap events
  case neg =>
    rw [renderBlock_of_badData hrise hgood]
    rfl
  rw [renderBlock_accepted hrise hgood, finishRender_v]
  exact (renderEvents_renderFrame s.e.elapsed n numOut (r := { st := s, cursor := 0, out := prior }) hgood).v

theorem fieldWrite_v (f : Field) (value : Word32) (s : State) : (f.write value s).v = s.v := by
  rw [Field.write_frame]

/-- A parameter write ends before its store, or with it and its emissions (R235, R238, R242). -/
theorem paramBlock_v (id : BitVec 8) (value : Word32) (s : State) : (paramBlock id value s).carried.v = s.v := by
  unfold paramBlock
  split
  · rfl
  next f _ =>
    by_cases hwritable : f.Writable value s
    · rw [writeParam_of_writable hwritable]
      exact fieldWrite_v f value s
    · cases f with
      | pan c =>
        rw [writeParam_of_not_finite (Bool.eq_false_of_not_eq_true hwritable)]
        split_ifs <;> rfl
      | clockRate => rw [writeParam_clockRate_of_active (Bool.eq_true_of_not_eq_false hwritable)]; rfl
      | mixer | volume | envPeriod | envShape | noisePeriod | numPoints | time | ratio => exact absurd trivial hwritable

theorem saveState_v (layout : ℕ) (s : State) : (saveState layout s).carried.v = s.v := by
  unfold saveState
  split <;> rfl

theorem deconfigureBlock_v (s : State) : (deconfigureBlock s).v = s.v := by
  unfold deconfigureBlock
  split_ifs <;> rfl

/-! ## Commands that change V -/

theorem engineRestore_v (s : State) : (engineRestore s).carried.v = s.v := by
  obtain ⟨cmds, hemits⟩ := engineRestore_carried s
  rw [hemits]
  rfl

theorem defaultIfUninitialized_v_cases (s : State) : (defaultIfUninitialized s).v = s.v ∨
    s.v = .uninitialized ∧ (defaultIfUninitialized s).v = .defaulted := by
  unfold defaultIfUninitialized
  split_ifs with huninitialized
  · exact .inr ⟨huninitialized, rfl⟩
  · exact .inl rfl

/-- Past the upfront causes, V is what the installation of the defaults leaves (R231, R249). -/
theorem configureBlock_v_cases (sampleRate : ℕ) (s : State) : (configureBlock sampleRate s).carried.v = s.v ∨
    s.v = .uninitialized ∧ (configureBlock sampleRate s).carried.v = .defaulted := by
  have hdefaults := defaultIfUninitialized_v_cases s
  simp only [configureBlock]
  split_ifs
  · exact .inl rfl
  · exact .inl rfl
  · exact hdefaults
  · rw [engineRestore_v]
    exact hdefaults

theorem loadState_v {s : State} (h : s.e.active = false) (blob : List Byte) :
    (loadState blob s).carried.v = if blob.length < 52 then .defaulted else .loaded := by
  split_ifs with hshort
  · rw [loadState_of_short h hshort]
    rfl
  · rcases lt_or_ge blob.length 208 with hlegacy | hfull
    · rw [loadState_of_legacy h (not_lt.mp hshort) hlegacy]
      rfl
    · rw [loadState_of_full h hfull]
      rfl

/-! ## Every command -/

/-- The transitions of V that R249 allows an instruction. -/
def ValidityTransition (i : Instr) (s t : State) : Prop :=
  t.v = s.v ∨
  (∃ sr, i = .configure sr ∧ s.v = .uninitialized ∧ t.v = .defaulted) ∨
  (∃ blob, i = .stateLoad blob ∧ s.e.active = false ∧ t.v = if blob.length < 52 then .defaulted else .loaded)

theorem exec_validityTransition {i : Instr} {s t : State} (hexec : exec i s = .next t) :
    ValidityTransition i s t := by
  cases hev : i.isEvent with
  | true =>
    have hkeeps := applyEvent_v i s
    rw [← exec_eq_applyEvent hev, hexec] at hkeeps
    exact .inl hkeeps
  | false =>
    cases i with
    | configure sr =>
      cases hexec
      have hcases := configureBlock_v_cases sr s
      rw [← finish_v] at hcases
      exact hcases.imp_right fun ⟨huninitialized, hset⟩ => .inl ⟨sr, rfl, huninitialized, hset⟩
    | stateLoad blob =>
      cases hexec
      cases hactive : s.e.active with
      | true => rw [loadState_of_active hactive]; exact .inl rfl
      | false => exact .inr (.inr ⟨blob, rfl, hactive, (finish_v _).trans (loadState_v hactive blob)⟩)
    | deconfigure => cases hexec; exact .inl (deconfigureBlock_v s)
    | render n numOut events prior => cases hexec; exact .inl (renderBlock_v n numOut events prior s)
    | paramWrite id value => cases hexec; exact .inl ((finish_v _).trans (paramBlock_v id value s))
    | stateSave layout => cases hexec; exact .inl ((finish_v _).trans (saveState_v layout s))
    | badOp op => cases hexec; exact .inl rfl
    | _ => cases hev

/-- Settles O59: CONFIGURE and STATE_LOAD are the only commands that do not keep V. -/
theorem validityTransitions : Obligations.ValidityTransitions := by
  unfold Obligations.ValidityTransitions
  exact fun _ _ _ hexec => exec_validityTransition hexec

end Sys2Proof.Machine
end

section
/-! SUPPORT. The state at instance creation and the DEFAULTS table (spec/70_reset_and_hazards.md R300, R301). -/

namespace Sys2Proof.Machine

open Sys2Proof

/-! ## Tables with one value in every place -/

@[simp] theorem perChOf_get {α : Type} (a : α) (c : Chan) : (perChOf a).get c = a := by cases c <;> rfl

/-- No breakpoint of the default form is set (R301). -/
@[simp] theorem standardChannel_pts_get (k : PtIdx) : Config.standardChannel.pts.get k = Config.zeroPoint := by
  cases k <;> rfl

/-! ## The state at creation -/

/-- R300: no channel's runtime has a note at creation. -/
@[simp] theorem State.powerUp_rt_get (cfg : Config) (c : Chan) : (State.powerUp cfg).rt.get c = Runtime.initial :=
  perChOf_get _ c

/-- R300: every bend register is at the centre at creation. -/
@[simp] theorem State.powerUp_pitchBend_get (cfg : Config) (c : Chan) :
    (State.powerUp cfg).e.pitchBend.get c = Config.bendCentre :=
  perChOf_get _ c

/-- R301: DEFAULTS has one row for the three channels. -/
@[simp] theorem State.reset_ch_get (c : Chan) : State.reset.ch.get c = Config.standardChannel := by
  cases c <;> rfl

/-- Settles O12: what varies with the channel or the breakpoint is read by the lemmas above; every other
element is a field of the record itself. -/
theorem powerUpState : Obligations.PowerUpState := by
  unfold Obligations.PowerUpState
  refine ⟨fun cfg => ⟨rfl, rfl, fun c => ?_, rfl, rfl, rfl, rfl, rfl, rfl⟩, rfl, rfl, fun c => ?_⟩
  · rw [State.powerUp_rt_get, State.powerUp_pitchBend_get]
    exact ⟨rfl, rfl, rfl, rfl⟩
  · rw [State.reset_ch_get]
    exact ⟨rfl, rfl, rfl, rfl, standardChannel_pts_get⟩

/-- Settles O13: reset is the creation with the standard configuration. -/
theorem invariantAtPowerUp : Obligations.InvariantAtPowerUp := by
  unfold Obligations.InvariantAtPowerUp
  exact ⟨State.powerUp_inv, State.powerUp_inv Config.standard⟩

end Sys2Proof.Machine
end
